-- ==== Sys2Proof/Word.lean ====
section
/-! DEFINITION. The words of the ML2448: a byte of a serial line and what a line brings, a time-base value, and the two heads. -/

namespace Sys2Proof

/-- One byte of the vehicle link, of a lamp port or of the EEPROM image. -/
abbrev Byte := BitVec 8

/-- A value of the time base: 32 bits of milliseconds, wrapping (R21). -/
abbrev Millis := BitVec 32

/-- The two matrix headlamps, and with them the two lamp ports (00 "Terms"). -/
inductive Head where
  | left
  | right
deriving DecidableEq, Repr

/-- The head on the other side. -/
def Head.other : Head → Head
  | .left => .right
  | .right => .left

/-- What a receive line brings: the start bit of a byte, which ends a silence, and then the byte whole (R109, R157). -/
inductive LineInput where
  | startBit
  | byte (b : Byte)
deriving DecidableEq, Repr

end Sys2Proof
end

