-- ==== Sys2Proof/Syntax.lean ====
section
/-! DEFINITION. The commands of the block: one constructor per row of spec/opcode_table.json.

A request row carries the frame's tag and the payload bytes in the layout of R174; rows whose first payload byte is fixed by
the row (MODE targets, QUERY kinds) carry only what follows it. -/

namespace Sys2Proof

/-- One command: an event that reaches the block from outside, or a moment at which work of its own ends. -/
inductive Instr where
  /-- RESET (R142): power-on or RESET_N low, then released; the operand is the level of the TRAFFIC_SIDE strap when reset
  ends (R5). -/
  | reset (trafficSideHigh : Bool)
  /-- AUTOLOAD_READ_COMPLETE (R177): the whole EEPROM image has been read; the operand is the image. -/
  | autoloadReadComplete (image : List Byte)
  /-- EEPROM_NO_ACKNOWLEDGE (R177). -/
  | eepromNoAcknowledge
  /-- AUTOLOAD_TIMEOUT (R177): the time base reaches 500 ms before the read has completed. -/
  | autoloadTimeout
  /-- FRAME_RECEIVED (R161): the second CRC byte `b` of a request frame arrives. -/
  | frameReceived (b : Byte)
  /-- FRAME_ABANDONED (R160): the byte `b` arrives as a length byte above 240, or with a framing error. -/
  | frameAbandoned (b : Byte) (framingError : Bool)
  /-- FRAME_SILENCE_TIMEOUT (R160): more than 40 µs of silence inside a frame. -/
  | frameSilenceTimeout
  /-- REPLY_TRANSMITTED (R166): the last stop bit of the reply has left the line. -/
  | replyTransmitted
  /-- UNKNOWN_TYPE (R164): a request whose type is not 0x01..0x09. -/
  | unknownType (type tag : Byte) (payload : List Byte)
  /-- SCENE (R68). -/
  | scene (tag : Byte) (payload : List Byte)
  /-- TRACK (R22). -/
  | track (tag : Byte) (payload : List Byte)
  /-- DROP (R37). -/
  | drop (tag : Byte) (payload : List Byte)
  /-- MODE_STANDBY (R145): MODE with the one target byte 0. -/
  | modeStandby (tag : Byte)
  /-- MODE_ACTIVATE (R148): MODE with the one target byte 1. -/
  | modeActivate (tag : Byte)
  /-- MODE_DIRECT (R149): MODE with the one target byte 2. -/
  | modeDirect (tag : Byte)
  /-- QUERY_SUMMARY (R82): QUERY with kind 0; the bytes after the kind. -/
  | querySummary (tag : Byte) (parameters : List Byte)
  /-- QUERY_TARGETS (R44): QUERY with kind 1. -/
  | queryTargets (tag : Byte) (parameters : List Byte)
  /-- QUERY_SHADOWS (R66): QUERY with kind 2; the head. -/
  | queryShadows (tag : Byte) (parameters : List Byte)
  /-- QUERY_NODES (R140): QUERY with kind 3. -/
  | queryNodes (tag : Byte) (parameters : List Byte)
  /-- QUERY_LEVELS (R95): QUERY with kind 4; the head and the group. -/
  | queryLevels (tag : Byte) (parameters : List Byte)
  /-- QUERY_FAULTS (R182): QUERY with kind 5. -/
  | queryFaults (tag : Byte) (parameters : List Byte)
  /-- QUERY_COUNTERS (R184): QUERY with kind 6. -/
  | queryCounters (tag : Byte) (parameters : List Byte)
  /-- CONFIG_WRITE (R179). -/
  | configWrite (tag : Byte) (payload : List Byte)
  /-- CONFIG_READ (R180). -/
  | configRead (tag : Byte) (payload : List Byte)
  /-- DIRECT_LEVELS (R99). -/
  | directLevels (tag : Byte) (payload : List Byte)
  /-- NODE_PASS (R125). -/
  | nodePass (tag : Byte) (payload : List Byte)
  /-- SCENE_TIMER_EXPIRY (R151): the time base reaches the scene timer's deadline. -/
  | sceneTimerExpiry
  /-- TRACK_TIMER_EXPIRY (R151): the time base reaches the track timer's deadline. -/
  | trackTimerExpiry
  /-- FRAME_START (R83): the time base reaches the frame clock's phase. -/
  | frameStart
  /-- HEAD_STAGE_COMPLETE (R94): the head stage in progress ends. -/
  | headStageComplete
  /-- BLOCK_SENT (R115): the stop bit of the block's last byte has been sent. -/
  | blockSent
  /-- ECHO_RECEIVED (R116): the byte `b`, the last of an echo, arrives on the echo-in line of `port`. -/
  | echoReceived (port : Head) (b : Byte)
  /-- ECHO_START_TIMEOUT (R115): no start byte by echo_timeout after the end of the block. -/
  | echoStartTimeout
  /-- ECHO_SILENCE_TIMEOUT (R115): the echo-in line has been silent for 20 µs. -/
  | echoSilenceTimeout
  /-- ECHO_HARD_LIMIT (R115): echo_timeout + 750 µs after the end of the block. -/
  | echoHardLimit
  /-- LINK_BYTE_RECEIVED (R159): a byte arrives on the vehicle link without a framing error; its start bit comes as a
  command of the same row (R157, R160). -/
  | linkByteReceived (input : LineInput)
  /-- ECHO_BYTE_RECEIVED (R115): a byte arrives on the echo-in line of `port`, with its stop bit found low or not; its start
  bit comes as a command of the same row (R109, R115). -/
  | echoByteReceived (port : Head) (input : LineInput) (stopLow : Bool)
  /-- QUERY_NO_KIND (R171): a QUERY with an empty payload or a kind byte above 6. -/
  | queryNoKind (tag : Byte) (payload : List Byte)
  /-- MODE_NO_TARGET (R145): a MODE whose payload is not one byte or names no target. -/
  | modeNoTarget (tag : Byte) (payload : List Byte)
deriving DecidableEq, Repr

end Sys2Proof
end

