-- ==== Sys2Proof/Config.lean ====
section
/-! DEFINITION. What the spec leaves open for the machine: the free values. -/

namespace Sys2Proof

/-- FREE VALUE (assumption log 2, DESIGN CHOICE): which of several moments that are due at the same time the block takes
first when no command is waiting, or on the way to a commanded moment. The spec lets either be taken first (R40, R84, R128,
R151 and others). The `n`th such tie reads `tieOrder n`; it has no body, so nothing can be proved about its value. -/
opaque Config.tieOrder : Nat → Nat

end Sys2Proof
end

