-- ==== Sys2Proof/Machine/CalTables.lean ====
section
/-! DEFINITION. The eight calibration tables (R175): the items of each, with range and default. -/

namespace Sys2Proof.Machine

/-- One item of a calibration table: its range and its default (R175). -/
structure ItemSpec where
  lo : Int
  hi : Int
  dflt : Int
deriving DecidableEq, Repr

/-- Table 0, Geometry (R175; offsets R3, node ranges R10, safe_level R96). -/
def geometrySpec : List ItemSpec :=
  [⟨-127, 127, -85⟩, ⟨-127, 127, 85⟩, ⟨0, 30, 1⟩, ⟨0, 30, 12⟩, ⟨0, 30, 13⟩, ⟨0, 30, 24⟩, ⟨0, 400, 0⟩]

/-- Table 1, Timing and link (R175). -/
def timingSpec : List ItemSpec :=
  [⟨4, 20, 8⟩, ⟨50, 1000, 250⟩, ⟨50, 1000, 300⟩, ⟨100, 2000, 400⟩, ⟨500, 20000, 3000⟩, ⟨0, 15, 4⟩, ⟨1, 8, 3⟩,
   ⟨1, 16, 4⟩]

/-- Table 2, Tracking (R175). -/
def trackingSpec : List ItemSpec :=
  [⟨0, 15, 4⟩, ⟨1, 4, 2⟩, ⟨20, 500, 80⟩, ⟨20, 2000, 400⟩, ⟨0, 16, 2⟩, ⟨0, 127, 48⟩, ⟨0, 63, 16⟩, ⟨0, 200, 60⟩,
   ⟨0, 63, 32⟩, ⟨0, 4, 1⟩]

/-- The four items of a tier record, with the tier's defaults (R46). -/
def tierSpec (margin vmargin residual lead : Int) : List ItemSpec :=
  [⟨0, 63, margin⟩, ⟨0, 31, vmargin⟩, ⟨0, 1023, residual⟩, ⟨0, 1, lead⟩]

/-- Table 3, Tiers: the class map (R45), then the four tier records (R46). -/
def tiersSpec : List ItemSpec :=
  [⟨0, 3, 3⟩, ⟨0, 3, 2⟩, ⟨0, 3, 2⟩, ⟨0, 3, 1⟩, ⟨0, 3, 3⟩, ⟨0, 3, 0⟩] ++
    tierSpec 4 4 256 0 ++ tierSpec 12 8 0 0 ++ tierSpec 16 16 0 1 ++ tierSpec 24 16 0 1

/-- Column levels that are symmetric about the optical axis, from the runs (length, level) of columns 0 to 23 (R16). -/
def symmetricColumns (runs : List (Nat × Int)) : List Int :=
  let half := runs.flatMap fun run => List.replicate run.1 run.2
  half ++ half.reverse

/-- A profile table: 48 column levels, then the four row gains with the defaults all profiles share (R15, R16). -/
def profileSpec (columns : List Int) : List ItemSpec :=
  (columns.map fun level => ⟨0, 1023, level⟩) ++ [⟨0, 256, 256⟩, ⟨0, 256, 256⟩, ⟨0, 256, 192⟩, ⟨0, 256, 128⟩]

/-- Table 4, profile TOWN (R16). -/
def townSpec : List ItemSpec := profileSpec (symmetricColumns [(6, 64), (6, 256), (12, 512)])

/-- Table 5, profile COUNTRY (R16). -/
def countrySpec : List ItemSpec := profileSpec (symmetricColumns [(6, 128), (6, 512), (12, 1023)])

/-- Table 6, profile MOTORWAY (R16). -/
def motorwaySpec : List ItemSpec := profileSpec (symmetricColumns [(8, 192), (8, 640), (8, 1023)])

/-- Table 7, Shaping (R73, R175). -/
def shapingSpec : List ItemSpec :=
  [⟨500, 4000, 2500⟩, ⟨100, 1000, 200⟩, ⟨500, 5000, 2500⟩, ⟨0, 384, 256⟩, ⟨1, 64, 12⟩, ⟨128, 256, 160⟩, ⟨1, 256, 64⟩,
   ⟨32, 160, 96⟩, ⟨1, 1023, 48⟩, ⟨0, 1500, 500⟩, ⟨0, 1500, 800⟩, ⟨0, 100, 30⟩, ⟨0, 200, 50⟩]

/-- The eight tables, numbered 0 to 7 (R175). -/
def tableSpecs : List (List ItemSpec) :=
  [geometrySpec, timingSpec, trackingSpec, tiersSpec, townSpec, countrySpec, motorwaySpec, shapingSpec]

/-- The items of table `t`; none for a table id above 7. -/
def tableSpec (t : Nat) : List ItemSpec := tableSpecs.getD t []

/-- A value lies in its item's range (R175). -/
def ItemSpec.admits (item : ItemSpec) (value : Int) : Bool := decide (item.lo ≤ value) && decide (value ≤ item.hi)

/-- A whole table of values: as many as the table has items, each in its item's range (R175, R178). -/
def valuesAdmitted : List ItemSpec → List Int → Bool
  | [], [] => true
  | item :: items, value :: values => item.admits value && valuesAdmitted items values
  | _, _ => false

/-- The items that hold two's complement words: items 0 and 1 of table 0 (R175). -/
def itemSigned (table index : Nat) : Bool := table == 0 && decide (index < 2)

/-- Every item of every table at its default (R175). -/
def defaultTables : List (List Int) := tableSpecs.map fun items => items.map ItemSpec.dflt

end Sys2Proof.Machine
end

