-- ==== Sys2Proof/Machine/State.lean ====
section
/-! DEFINITION. The state of the ML2448: everything the spec gives the block, as plain data, and the state after reset. -/

namespace Sys2Proof.Machine

/-- The operating modes (R141). -/
inductive Mode where
  | start
  | standby
  | active
  | safe
  | direct
deriving DecidableEq, Repr

/-- The beam profiles (R15). -/
inductive Profile where
  | town
  | country
  | motorway
deriving DecidableEq, Repr

/-- The standing of a target entry (R20). -/
inductive EntryState where
  | tentative
  | active
  | coasting
deriving DecidableEq, Repr

/-- One entry of the Target Table (R19). `cls` is the class. -/
structure Entry where
  id : Nat
  cls : Nat
  tier : Nat
  azL : Int
  azR : Int
  rate : Int
  elevB : Int
  elevT : Int
  range : Nat
  confidence : Nat
  obsTime : Millis
  hits : Nat
  state : EntryState
deriving DecidableEq, Repr

/-- The scene record (R67). -/
structure SceneRecord where
  speed : Nat
  speedKnown : Bool
  speedHeld : Bool
  yawRate : Int
  yawValid : Bool
  chassisPitch : Int
  highBeam : Bool
  lastTime : Millis
  accepted : Bool
deriving DecidableEq, Repr

/-- The copy of scene values that one composition works on (R71). -/
structure SceneSnapshot where
  speed : Nat
  speedKnown : Bool
  yawRate : Int
  yawValid : Bool
  chassisPitch : Int
  highBeam : Bool
deriving DecidableEq, Repr

/-- The Beam Shaper's state between compositions (R72). `profile` is none while unselected, `pf` none while uninitialised. -/
structure Shaper where
  profile : Option Profile
  prev : Int
  pf : Option Int
  bendLeft : Int
  bendRight : Int
deriving DecidableEq, Repr

/-- The results that the Beam Shaper stage hands the rest of the composition (R74): `darkRows` are the rows at or above the
pitch ceiling. -/
structure ShaperResults where
  profile : Profile
  bendLeft : Int
  bendRight : Int
  darkRows : List Nat
  highBeam : Bool
deriving DecidableEq, Repr

/-- A shadow window (R56). -/
structure Window where
  first : Nat
  last : Nat
  bottom : Nat
  top : Nat
  residual : Nat
deriving DecidableEq, Repr

/-- The pattern of a composition (R85). -/
inductive Pattern where
  | envelope
  | safe
deriving DecidableEq, Repr

/-- A composition in flight (R85). `remaining` lists the present heads still to be composed, the next one first; the shadow
lists are those built so far in this composition (R61, R88). -/
structure Composition where
  frameStart : Millis
  pattern : Pattern
  targets : List (Option Entry)
  scene : SceneSnapshot
  results : ShaperResults
  remaining : List Head
  shadowsLeft : List Window
  shadowsRight : List Window
deriving DecidableEq, Repr

/-- A full staged slot (R101). -/
structure StagedFrame where
  levels : List Nat
  readyTime : Millis
deriving DecidableEq, Repr

/-- What the block holds for one head: the stored shadow list (R62), the applied levels (R92), the staged and live slots and
the direct frame (R98, R101), the send cursor (R113) and the HOLD line, true when asserted (R107). Level arrays list 192
levels, segment (c, r) at index 48·r + c (R8). -/
structure HeadState where
  shadows : List Window
  applied : List Nat
  staged : Option StagedFrame
  live : Option (List Nat)
  direct : List Nat
  cursor : Nat
  hold : Bool
deriving DecidableEq, Repr

/-- The grant of the Link Sequencer (R113). -/
inductive Grant where
  | none
  | head (h : Head)
  | pass
deriving DecidableEq, Repr

/-- The kind and content of a block (R110). -/
inductive BlockContent where
  | levels (levels : List Nat)
  | service (bytes : List Byte)
deriving DecidableEq, Repr

/-- How far an exchange has come (R115, R116): the block is being sent; the start byte is awaited; the echo is being received
(`bytes` from the start byte on); or the echo has failed and 20 µs of silence are awaited. `endedAt` is the time the block
ended, `silentSince` the time of the last byte on the echo-in line, and none while a further byte is coming in (R109). -/
inductive ExchangePhase where
  | sending
  | awaiting (endedAt : Nat)
  | receiving (endedAt : Nat) (bytes : List Byte) (silentSince : Option Nat)
  | failed (endedAt : Nat) (silentSince : Option Nat)
deriving DecidableEq, Repr

/-- The exchange in flight (R113): `startedAt` is the time the first byte of the block went out. -/
structure Exchange where
  port : Head
  node : Nat
  content : BlockContent
  startedAt : Nat
  phase : ExchangePhase
deriving DecidableEq, Repr

/-- The pass-through, waiting or in flight (R113). -/
structure PassThrough where
  node : Nat
  bytes : List Byte
  inFlight : Bool
deriving DecidableEq, Repr

/-- The states of a node record (R129). -/
inductive NodeState where
  | unseen
  | ok
  | suspect
  | silent
  | isolated
deriving DecidableEq, Repr

/-- The last-echo part of a node record (R129); channel 0 is the most significant bit of each flag word (R111). -/
structure LastEcho where
  derate : Byte
  openFlags : BitVec 16
  shortFlags : BitVec 16
deriving DecidableEq, Repr

/-- A node record (R129). -/
structure NodeRecord where
  state : NodeState
  mismatchCount : Nat
  failCount : Nat
  lastEcho : Option LastEcho
deriving DecidableEq, Repr

/-- The kinds of fault (R181). -/
inductive FaultKind where
  | calAbsent
  | calGroupDefaulted
  | sceneLost
  | trackLost
  | directAborted
  | nodeSilent
  | nodeIsolated
  | stringOpen
  | stringShort
deriving DecidableEq, Repr

/-- One record of the fault list (R181). -/
structure FaultRecord where
  kind : FaultKind
  subject : Nat
  firstTime : Millis
  occurrences : Nat
deriving DecidableEq, Repr

/-- One counter and its overflow flag (R183). -/
structure Counter where
  count : Nat
  overflow : Bool
deriving DecidableEq, Repr

/-- The image read in flight (R176, R177): the bus address, the memory address it began at, and its length. -/
structure AutoloadRead where
  busAddress : Nat
  memoryAddress : Nat
  length : Nat
deriving DecidableEq, Repr

/-- The states of the framer (R159). -/
inductive FramerState where
  | hunt
  | pair
  | header
  | payload
  | crc
deriving DecidableEq, Repr

/-- A good request frame (R162). Its length is that of `payload`. -/
structure LinkFrame where
  type : Byte
  tag : Byte
  payload : List Byte
  receipt : Millis
deriving DecidableEq, Repr

/-- The states of the Request Handler (R163). -/
inductive Handler where
  | idle
  | serving (request : LinkFrame)
  | transmitting
deriving DecidableEq, Repr

/-- The reply in the reply buffer (R165, R166), with the time its first byte went out. -/
structure Reply where
  type : Byte
  tag : Byte
  payload : List Byte
  startedAt : Nat
deriving DecidableEq, Repr

/-- Why a step would stop with a fault. No rule of the spec stops the block: every error is answered, counted or recorded and
the block goes on. So the type is empty, and no meaning raises a fault. -/
inductive Fault where
deriving DecidableEq, Repr

/-- Why a step would be refused. -/
inductive Refusal where
  /-- Raised only by an arm of `exec` whose command has no meaning yet; safe, since nothing then happens. No arm is one. -/
  | notModelled (mnemonic : String)
deriving DecidableEq, Repr

/-- The state of the block. -/
structure State where
  /-- Microseconds since reset ended: the lamp-port and vehicle-link time reference (R109, R157); the time base is its
  millisecond count (R21, log 4). -/
  micros : Nat
  /-- MODEL'S OWN: how many ties of due moments have been broken by the free value (log 2). -/
  ties : Nat
  /-- MODEL'S OWN: the commands that are waiting, first in, first out. -/
  pending : List Instr
  /-- The sampled TRAFFIC_SIDE strap (R5). -/
  trafficSideHigh : Bool
  /-- Mode Controller (R141). -/
  mode : Mode
  trackPending : Bool
  sceneSeen : Bool
  trackSeen : Bool
  /-- Deadline of the scene timer; none while stopped (R147). -/
  sceneTimer : Option Millis
  /-- Deadline of the track timer; none while stopped (R147). -/
  trackTimer : Option Millis
  /-- Scene Input (R67). -/
  scene : SceneRecord
  /-- Target Table: sixteen slots (R18), the time of the last accepted TRACK and its mark (R22). -/
  slots : List (Option Entry)
  lastTrackTime : Millis
  trackAccepted : Bool
  /-- Beam Shaper (R72). -/
  shaper : Shaper
  /-- Composer: none while idle (R84, R85). -/
  composition : Option Composition
  /-- Frame Clock: the time of the next frame start; none while stopped (R83). -/
  framePhase : Option Millis
  /-- Per-head state. -/
  left : HeadState
  right : HeadState
  /-- Link Sequencer (R113). -/
  grant : Grant
  grantStart : Option Nat
  progress : Nat
  exchange : Option Exchange
  passThrough : Option PassThrough
  /-- Node Supervisor: the records of node ids 1 to 30, in that order (R129). -/
  nodes : List NodeRecord
  /-- Calibration Store (R175, R177). -/
  tables : List (List Int)
  autoload : Option AutoloadRead
  holdingBuffer : List Byte
  /-- Fault Unit (R181, R183). -/
  faults : List FaultRecord
  faultOverflow : Bool
  counters : List Counter
  /-- Vehicle Link Port: framer (R159), the bytes of the frame being received from the type byte on (R160), the time of the
  last byte received, none while a further byte is coming in (R157, R160), inbound queue (R162), reply buffer (R166). -/
  framer : FramerState
  rxBytes : List Byte
  rxSilentSince : Option Nat
  inbound : List LinkFrame
  replyBuffer : Option Reply
  /-- Request Handler (R163). -/
  handler : Handler
deriving DecidableEq, Repr

/-- The scene record after reset (R67). -/
def SceneRecord.reset : SceneRecord :=
  { speed := 0, speedKnown := false, speedHeld := false, yawRate := 0, yawValid := false, chassisPitch := 0,
    highBeam := false, lastTime := 0, accepted := false }

/-- The Beam Shaper after reset and after teardown (R72). -/
def Shaper.rest : Shaper := { profile := none, prev := 0, pf := none, bendLeft := 0, bendRight := 0 }

/-- The sixteen free slots (R18). -/
def freeSlots : List (Option Entry) := List.replicate 16 none

/-- 192 levels of 0 (R92, R98). -/
def darkFrame : List Nat := List.replicate 192 0

/-- A head's state after reset and after teardown (R62, R64, R92, R98, R101, R105, R107, R113). -/
def HeadState.rest : HeadState :=
  { shadows := [], applied := darkFrame, staged := none, live := none, direct := darkFrame, cursor := 0, hold := true }

/-- A node record after reset and after teardown (R129, R139). -/
def NodeRecord.rest : NodeRecord := { state := .unseen, mismatchCount := 0, failCount := 0, lastEcho := none }

/-- The thirty records after reset and after teardown (R129). -/
def restNodes : List NodeRecord := List.replicate 30 NodeRecord.rest

/-- The thirteen counters after reset and after QUERY COUNTERS (R183, R184). -/
def zeroCounters : List Counter := List.replicate 13 { count := 0, overflow := false }

/-- The read of the calibration image that begins when reset ends: 442 bytes from memory address 0 of bus address 0x51
(R176, R177). -/
def AutoloadRead.begun : AutoloadRead := { busAddress := 0x51, memoryAddress := 0, length := 442 }

/-- The machine right after reset: START with the autoload in flight (R142), every block in its reset state. DESIGN CHOICE
(logs 2, 8, 10, 13): the strap is sampled low, `micros` and `ties` are 0, the receive wire is silent since then, and
`holdingBuffer` is empty. -/
def State.reset : State :=
  { micros := 0, ties := 0, pending := [], trafficSideHigh := false,
    mode := .start, trackPending := false, sceneSeen := false, trackSeen := false, sceneTimer := none, trackTimer := none,
    scene := SceneRecord.reset, slots := freeSlots, lastTrackTime := 0, trackAccepted := false, shaper := Shaper.rest,
    composition := none, framePhase := none, left := HeadState.rest, right := HeadState.rest,
    grant := .none, grantStart := none, progress := 0, exchange := none, passThrough := none, nodes := restNodes,
    tables := defaultTables, autoload := some AutoloadRead.begun, holdingBuffer := [],
    faults := [], faultOverflow := false, counters := zeroCounters,
    framer := .hunt, rxBytes := [], rxSilentSince := some 0, inbound := [], replyBuffer := none, handler := .idle }

end Sys2Proof.Machine
end

