-- ==== Sys2Proof/Machine/Operands.lean ====
section
/-! DEFINITION. Operand forms: rounding (00 "Arithmetic"), byte order and bit strings (00 "Byte order and layouts"), the two
CRCs (R112, R158), and the payload layouts of the requests (R174). -/

namespace Sys2Proof.Machine

/-! ## Rounding -/

/-- "Clamped to lo..hi". -/
def clampTo (lo hi x : Int) : Int := if x < lo then lo else if hi < x then hi else x

/-- Division "truncated", toward zero. -/
def truncDiv (a b : Int) : Int := Int.tdiv a b

/-- Division "floor", toward minus infinity. -/
def floorDiv (a b : Int) : Int := Int.fdiv a b

/-- Division "rounded": to the nearest integer, halves away from zero; for a positive divisor. -/
def roundDiv (a b : Int) : Int :=
  if 0 ≤ a then floorDiv (2 * a + b) (2 * b) else -floorDiv (2 * (-a) + b) (2 * b)

/-! ## Bytes, most significant first -/

/-- The 16-bit word of two bytes. -/
def word16 (hi lo : Byte) : BitVec 16 := hi ++ lo

/-- An unsigned 16-bit field. -/
def unsigned16 (hi lo : Byte) : Nat := (word16 hi lo).toNat

/-- A signed 16-bit field, two's complement. -/
def signed16 (hi lo : Byte) : Int := (word16 hi lo).toInt

/-- The byte at a position of a payload; 0 beyond its end, which the length check rules out. -/
def byteAt (bytes : List Byte) (i : Nat) : Byte := bytes.getD i 0

/-- The unsigned 16-bit field at a position of a payload. -/
def unsignedAt (bytes : List Byte) (i : Nat) : Nat := unsigned16 (byteAt bytes i) (byteAt bytes (i + 1))

/-- The signed 16-bit field at a position of a payload. -/
def signedAt (bytes : List Byte) (i : Nat) : Int := signed16 (byteAt bytes i) (byteAt bytes (i + 1))

/-- One byte. -/
def byteOf (n : Nat) : Byte := BitVec.ofNat 8 n

/-- The two bytes of a 16-bit word. -/
def bytes16 (w : BitVec 16) : List Byte := [w.extractLsb' 8 8, w.extractLsb' 0 8]

/-- A number as an unsigned 16-bit field. -/
def bytesOfNat16 (n : Nat) : List Byte := bytes16 (BitVec.ofNat 16 n)

/-- A number as a signed 16-bit field. -/
def bytesOfInt16 (x : Int) : List Byte := bytes16 (BitVec.ofInt 16 x)

/-- A time-base value as four bytes. -/
def bytes32 (w : Millis) : List Byte :=
  [w.extractLsb' 24 8, w.extractLsb' 16 8, w.extractLsb' 8 8, w.extractLsb' 0 8]

/-! ## Bit strings, most significant bit first (R110, R172) -/

/-- The `width` low bits of a number, most significant first. -/
def bitsOfNat : Nat → Nat → List Bool
  | 0, _ => []
  | width + 1, n => n.testBit width :: bitsOfNat width n

/-- A signed field in its own width, two's complement (R172). -/
def bitsOfInt (width : Nat) (x : Int) : List Bool := bitsOfNat width (BitVec.ofInt width x).toNat

/-- The number that a bit string spells. -/
def natOfBits (bits : List Bool) : Nat := bits.foldl (fun n b => 2 * n + b.toNat) 0

/-- A bit string cut into `n` bytes. -/
def packBits : Nat → List Bool → List Byte
  | 0, _ => []
  | n + 1, bits => byteOf (natOfBits (bits.take 8)) :: packBits n (bits.drop 8)

/-- The bit string of a byte sequence. -/
def unpackBits (bytes : List Byte) : List Bool := bytes.flatMap fun b => bitsOfNat 8 b.toNat

/-- Sixteen levels of ten bits each, cut into twenty bytes (R110). -/
def packLevels (levels : List Nat) : List Byte := packBits 20 (levels.flatMap (bitsOfNat 10))

/-- The `n` next ten-bit levels of a bit string. -/
def takeLevels : Nat → List Bool → List Nat
  | 0, _ => []
  | n + 1, bits => natOfBits (bits.take 10) :: takeLevels n (bits.drop 10)

/-- The sixteen levels of a twenty-byte string (R110, R111). -/
def unpackLevels (bytes : List Byte) : List Nat := takeLevels 16 (unpackBits bytes)

/-! ## CRCs -/

/-- One step of the CRC-8 register, polynomial 0x1D (R112). -/
def crc8Step (r : BitVec 8) : BitVec 8 := if r.msb then (r <<< 1) ^^^ 0x1D else r <<< 1

/-- A number of steps of a register. -/
def stepTimes (f : BitVec w → BitVec w) : Nat → BitVec w → BitVec w
  | 0, r => r
  | n + 1, r => stepTimes f n (f r)

/-- The CRC-8 over a byte sequence, initial value 0xFF (R112). -/
def crc8 (bytes : List Byte) : Byte := bytes.foldl (fun r b => stepTimes crc8Step 8 (r ^^^ b)) 0xFF

/-- One step of the CRC-16 register, polynomial 0x1021 (R158). -/
def crc16Step (r : BitVec 16) : BitVec 16 := if r.msb then (r <<< 1) ^^^ 0x1021 else r <<< 1

/-- A byte in the upper eight bits of the CRC-16 register (R158). -/
def upperByte (b : Byte) : BitVec 16 := b ++ (0 : Byte)

/-- The CRC-16 over a byte sequence, initial value 0xFFFF: each byte goes into the upper eight bits (R158). -/
def crc16 (bytes : List Byte) : BitVec 16 :=
  bytes.foldl (fun r b => stepTimes crc16Step 8 (r ^^^ upperByte b)) 0xFFFF

/-! ## Link frames (R158) -/

/-- The bytes that the CRC-16 covers: type, tag, length and payload. -/
def coveredBytes (type tag : Byte) (payload : List Byte) : List Byte :=
  type :: tag :: byteOf payload.length :: payload

/-- The bytes of a link frame on the line. -/
def frameBytes (type tag : Byte) (payload : List Byte) : List Byte :=
  0xB4 :: 0x4B :: (coveredBytes type tag payload ++ bytes16 (crc16 (coveredBytes type tag payload)))

/-- The bytes of a reply on the transmit wire (R158, R165). -/
def Reply.wire (r : Reply) : List Byte := frameBytes r.type r.tag r.payload

/-- A reply lasts 10·(length + 7) µs on the line (R166). -/
def Reply.duration (r : Reply) : Nat := 10 * (r.payload.length + 7)

/-! ## Blocks on a lamp port (R110) -/

/-- The bytes that the CRC-8 of a block covers. -/
def blockCovered (node : Nat) : BlockContent → List Byte
  | .levels levels => 1 :: byteOf node :: packLevels levels
  | .service bytes => 2 :: byteOf node :: byteOf bytes.length :: bytes

/-- The bytes of a block. -/
def blockBytes (node : Nat) (content : BlockContent) : List Byte :=
  0xE1 :: (blockCovered node content ++ [crc8 (blockCovered node content)])

/-- The kind byte of a block (R110). -/
def BlockContent.kind : BlockContent → Byte
  | .levels _ => 1
  | .service _ => 2

/-- A byte occupies 5 µs on a lamp port, and the bytes of a block go back to back (R109). -/
def Exchange.blockDuration (x : Exchange) : Nat := 5 * (blockBytes x.node x.content).length

/-! ## Heads, observations and status codes in payloads -/

/-- A head byte: 0 left, 1 right, any other none (R169). -/
def headOfByte (b : Byte) : Option Head :=
  if b = 0 then some .left else if b = 1 then some .right else none

/-- The head byte of a head (R169). -/
def headByte : Head → Byte
  | .left => 0
  | .right => 1

/-- One observation of a TRACK as it stands in the request (R170, R174). -/
structure Observation where
  id : Nat
  cls : Nat
  azL : Int
  azR : Int
  rate : Int
  elevBottom : Int
  elevTop : Int
  range : Nat
  confidence : Nat
  leaving : Bool
deriving DecidableEq, Repr

/-- The observation of seventeen bytes; the last two are not read (R174). -/
def Observation.parse (b : List Byte) : Observation :=
  { id := (byteAt b 0).toNat, cls := (byteAt b 1).toNat, azL := signedAt b 2, azR := signedAt b 4, rate := signedAt b 6,
    elevBottom := signedAt b 8, elevTop := signedAt b 10, range := unsignedAt b 12,
    confidence := (byteAt b 14).toNat % 16, leaving := (byteAt b 14).getLsbD 7 }

/-- The `n` observations behind the header of a TRACK. -/
def parseObservations : Nat → List Byte → List Observation
  | 0, _ => []
  | n + 1, bytes => Observation.parse (bytes.take 17) :: parseObservations n (bytes.drop 17)

/-- The `n` unsigned 16-bit values from position `i` of a payload. -/
def unsignedValues (n i : Nat) (payload : List Byte) : List Nat :=
  (List.range n).map fun k => unsignedAt payload (i + 2 * k)

/-- Status bytes (R167). -/
inductive Status where
  | ok
  | clamped
  | badLength
  | badField
  | wrongState
  | noRoute
  | nodeTimeout
  | configInconsistent
  | unknownType
deriving DecidableEq, Repr

/-- The code of a status (R167). -/
def Status.code : Status → Byte
  | .ok => 0x00
  | .clamped => 0x01
  | .badLength => 0x10
  | .badField => 0x11
  | .wrongState => 0x12
  | .noRoute => 0x13
  | .nodeTimeout => 0x14
  | .configInconsistent => 0x15
  | .unknownType => 0x16

/-- CLAMPED if a value was clamped, OK otherwise (R36, R68, R99). -/
def Status.ofClamp (clamped : Bool) : Status := if clamped then .clamped else .ok

/-- Outcomes of an observation (R36). -/
inductive ObsOutcome where
  | added
  | addedEvicting (victim : Nat)
  | updated
  | removed
  | notFound
  | refusedField
  | refusedConfidence
  | tableFull
deriving DecidableEq, Repr

/-- The code of an outcome (R170). -/
def ObsOutcome.code : ObsOutcome → Nat
  | .added => 1
  | .addedEvicting _ => 2
  | .updated => 3
  | .removed => 4
  | .notFound => 5
  | .refusedField => 6
  | .refusedConfidence => 7
  | .tableFull => 8

/-- The victim id reported with an outcome (R36). -/
def ObsOutcome.victim : ObsOutcome → Nat
  | .addedEvicting victim => victim
  | _ => 0

/-- The two bytes of an outcome in the reply: bit 7 of the first is the clamped mark (R170). -/
def ObsOutcome.bytes (o : ObsOutcome) (clampedMark : Bool) : List Byte :=
  [byteOf (o.code + if clampedMark then 128 else 0), byteOf o.victim]

end Sys2Proof.Machine
end

