-- ==== Sys2Proof/Machine/Flags.lean ====
section
/-! DEFINITION. The Fault Unit (R181 to R184) and the fault bits (R168): every latch, count and flag. -/

namespace Sys2Proof.Machine

/-- The code of a fault kind (R174, R181). -/
def FaultKind.code : FaultKind → Nat
  | .calAbsent => 1
  | .calGroupDefaulted => 2
  | .sceneLost => 3
  | .trackLost => 4
  | .directAborted => 5
  | .nodeSilent => 6
  | .nodeIsolated => 7
  | .stringOpen => 8
  | .stringShort => 9

/-- The record is that of a pair of kind and subject (R181). -/
def FaultRecord.isOf (r : FaultRecord) (kind : FaultKind) (subject : Nat) : Bool :=
  decide (r.kind = kind) && r.subject == subject

/-- A repeat raises the occurrences, saturating at 255, and keeps the first time (R181). -/
def FaultRecord.again (r : FaultRecord) : FaultRecord := { r with occurrences := min 255 (r.occurrences + 1) }

/-- A fault of some kind and subject is latched at a time (R181): a known pair is counted, a new one is appended while fewer
than 24 records are held, and otherwise the overflow flag is set. -/
def latchFault (kind : FaultKind) (subject : Nat) (now : Millis) (s : State) : State :=
  if s.faults.any fun r => r.isOf kind subject then
    { s with faults := s.faults.map fun r => if r.isOf kind subject then r.again else r }
  else if s.faults.length < 24 then
    { s with faults := s.faults ++ [{ kind, subject, firstTime := now, occurrences := 1 }] }
  else
    { s with faultOverflow := true }

/-- The thirteen counters in their reporting order (R183). -/
inductive CounterId where
  | linkCrcErrors
  | linkFramesAbandoned
  | queueFullDrops
  | obsRefused
  | obsTableFull
  | evictions
  | framesSkipped
  | superseded (h : Head)
  | truncated (h : Head)
  | echoFailures (h : Head)
deriving DecidableEq, Repr

/-- The place of a counter in the reporting order, from 0 (R183). -/
def CounterId.index : CounterId → Nat
  | .linkCrcErrors => 0
  | .linkFramesAbandoned => 1
  | .queueFullDrops => 2
  | .obsRefused => 3
  | .obsTableFull => 4
  | .evictions => 5
  | .framesSkipped => 6
  | .superseded .left => 7
  | .superseded .right => 8
  | .truncated .left => 9
  | .truncated .right => 10
  | .echoFailures .left => 11
  | .echoFailures .right => 12

/-- An increment; at 65535 the count stays and the overflow flag is set (R183). -/
def Counter.increment (c : Counter) : Counter :=
  if c.count < 65535 then { c with count := c.count + 1 } else { c with overflow := true }

/-- An event increments its counter (R183). -/
def countEvent (id : CounterId) (s : State) : State :=
  { s with counters := s.counters.modify id.index Counter.increment }

/-- The counter of an event. -/
def State.counter (s : State) (id : CounterId) : Counter := s.counters.getD id.index { count := 0, overflow := false }

/-- The fault bits of the summary block: bit code - 1 for each kind present in the list (R168). -/
def faultBits (faults : List FaultRecord) : BitVec 16 :=
  faults.foldl (fun bits r => bits ||| ((1 : BitVec 16) <<< (r.kind.code - 1))) 0

/-- QUERY FAULTS empties the list and clears the flag (R182). -/
def emptyFaults (s : State) : State := { s with faults := [], faultOverflow := false }

/-- QUERY COUNTERS sets every counter to 0 and clears every flag (R184). -/
def clearCounters (s : State) : State := { s with counters := zeroCounters }

/-- A fault record in the reply: kind code, subject, first time, occurrences (R174, R182). -/
def FaultRecord.bytes (r : FaultRecord) : List Byte :=
  byteOf r.kind.code :: byteOf r.subject :: (bytes32 r.firstTime ++ [byteOf r.occurrences])

/-- The overflow flags as one 16-bit field: the first counter's in the most significant bit, the lowest three bits 0
(R184). -/
def overflowField (counters : List Counter) : Nat := natOfBits (counters.map Counter.overflow) * 8

end Sys2Proof.Machine
end

