-- ==== Sys2Proof/Machine/Ops.lean ====
section
/-! DEFINITION. Shared operations: time, the two heads, calibration items, the segment matrix, the summary block and the
building of a reply. -/

namespace Sys2Proof.Machine

/-! ## Time (R21, R83, R147) -/

/-- The time base: milliseconds since reset ended, modulo 2^32 (R21). -/
def State.timeBase (s : State) : Millis := BitVec.ofNat 32 (s.micros / 1000)

/-- The microsecond at which the time base next equals `d`: now, if it does (R83, R147: "across a wrap of the count as
well"). -/
def State.microsAt (s : State) (d : Millis) : Nat :=
  if s.timeBase = d then s.micros else (s.micros / 1000 + (d - s.timeBase).toNat) * 1000

/-- Time passes to a microsecond; it never goes back (R21). -/
def passTo (t : Nat) (s : State) : State := { s with micros := max s.micros t }

/-- The elapsed time from `then_` to `now`, modulo 2^32 (R21). -/
def ageOf (now then_ : Millis) : Nat := (now - then_).toNat

/-- A number of milliseconds as a time-base value. -/
def millis (n : Int) : Millis := BitVec.ofInt 32 n

/-! ## Heads -/

/-- What the block holds for a head. -/
def State.head (s : State) : Head → HeadState
  | .left => s.left
  | .right => s.right

/-- Replace what the block holds for a head. -/
def State.setHead (s : State) (h : Head) (hs : HeadState) : State :=
  match h with
  | .left => { s with left := hs }
  | .right => { s with right := hs }

/-- The oncoming-side head: strap low, left; strap high, right (R5). -/
def State.oncoming (s : State) : Head := if s.trafficSideHigh then .right else .left

/-! ## Calibration items (R175) -/

/-- Item `i` of table `t`. -/
def State.item (s : State) (t i : Nat) : Int := (s.tables.getD t []).getD i 0

/-- Item `i` of table `t` where it is used as a count. -/
def State.itemNat (s : State) (t i : Nat) : Nat := (s.item t i).toNat

/-- Head offset in cm (R3). -/
def State.offset (s : State) : Head → Int
  | .left => s.item 0 0
  | .right => s.item 0 1

/-- First node id of a head (R10). -/
def State.firstNode (s : State) : Head → Int
  | .left => s.item 0 2
  | .right => s.item 0 4

/-- Last node id of a head (R10). -/
def State.lastNode (s : State) : Head → Int
  | .left => s.item 0 3
  | .right => s.item 0 5

/-- A head is absent when its first and last node ids are both 0 (R10). -/
def State.present (s : State) (h : Head) : Bool := !(s.firstNode h == 0 && s.lastNode h == 0)

/-- The node count n_h of a head (R10); 0 for an absent head, all of whose segments are undriven (R12). -/
def State.nodeCount (s : State) (h : Head) : Nat :=
  if s.present h then (s.lastNode h - s.firstNode h + 1).toNat else 0

/-- The present heads, the oncoming-side head first (R5, R86). -/
def State.presentHeads (s : State) : List Head := [s.oncoming, s.oncoming.other].filter s.present

/-- The head whose node range contains a node id, if there is one (R13). -/
def State.routeOf (s : State) (node : Nat) : Option Head :=
  [Head.left, Head.right].find? fun h =>
    s.present h && decide (s.firstNode h ≤ (node : Int)) && decide ((node : Int) ≤ s.lastNode h)

/-! ## The segment matrix -/

/-- The place of segment (c, r) in a level array. -/
def segmentIndex (c r : Nat) : Nat := 48 * r + c

/-- The level of segment (c, r) in a level array. -/
def levelAt (levels : List Nat) (c r : Nat) : Nat := levels.getD (segmentIndex c r) 0

/-- A level array from the level of each segment (c, r). -/
def matrixOf (f : Nat → Nat → Nat) : List Nat := (List.range 192).map fun i => f (i % 48) (i / 48)

/-- The column of channel `k` of group `g` (R9). -/
def channelColumn (g k : Nat) : Nat := 4 * g + k % 4

/-- The row of channel `k` (R9). -/
def channelRow (k : Nat) : Nat := k / 4

/-- The sixteen levels of a group in channel order (R9). -/
def groupLevels (levels : List Nat) (g : Nat) : List Nat :=
  (List.range 16).map fun k => levelAt levels (channelColumn g k) (channelRow k)

/-- A level array whose group `g` takes sixteen levels in channel order (R9, R99). -/
def writeGroup (levels : List Nat) (g : Nat) (channels : List Nat) : List Nat :=
  matrixOf fun c r => if c / 4 = g then channels.getD (4 * r + c % 4) 0 else levelAt levels c r

/-- Column `c` lies in an undriven group of head `h` (R11). -/
def State.undriven (s : State) (h : Head) (c : Nat) : Bool := decide (s.nodeCount h ≤ c / 4)

/-- The fixed lower edge of a row (R7). -/
def rowLow (r : Nat) : Int := 32 * (r : Int) - 16

/-! ## Faults at the present time -/

/-- Latch a fault at the present time-base value (R181). -/
def latch (kind : FaultKind) (subject : Nat) (s : State) : State := latchFault kind subject s.timeBase s

/-! ## The summary block and replies -/

/-- The number of occupied slots (R18). -/
def State.occupancy (s : State) : Nat := (s.slots.filter Option.isSome).length

/-- The code of a mode (R168). -/
def Mode.code : Mode → Nat
  | .start => 0
  | .standby => 1
  | .active => 2
  | .safe => 3
  | .direct => 4

/-- The code of a profile state (R168). -/
def profileCode : Option Profile → Nat
  | none => 0
  | some .town => 1
  | some .country => 2
  | some .motorway => 3

/-- The flags byte of the summary block (R168). -/
def State.flagsByte (s : State) : Nat :=
  s.scene.highBeam.toNat + 2 * s.trackPending.toNat + 4 * s.scene.speedHeld.toNat

/-- The summary block (R168). -/
def State.summary (s : State) : List Byte :=
  [byteOf s.mode.code, byteOf (profileCode s.shaper.profile), byteOf s.flagsByte, byteOf s.occupancy,
    byteOf s.left.shadows.length, byteOf s.right.shadows.length] ++ bytes16 (faultBits s.faults)

/-- The reply to a request: type plus 0x80, the tag, and status, summary block and type-specific part as they stand
(R165). -/
def replyTo (request : LinkFrame) (status : Status) (part : List Byte) (s : State) : Reply :=
  { type := request.type + 0x80, tag := request.tag, payload := status.code :: (s.summary ++ part), startedAt := s.micros }

/-- The reply is built and placed in the reply buffer, and the Request Handler is TRANSMITTING (R163, R166). -/
def answer (request : LinkFrame) (status : Status) (part : List Byte) (s : State) : State :=
  { s with replyBuffer := some (replyTo request status part s), handler := .transmitting }

end Sys2Proof.Machine
end

