-- ==== Sys2Proof/Machine/Supervisor.lean ====
section
/-! DEFINITION. The Node Supervisor (chapter 7): the echo compare and the judging of a node. -/

namespace Sys2Proof.Machine

/-- The outcome of an exchange (R117): a good levels echo with the levels sent, the levels echoed, the derate and the flags;
a good service echo with its bytes; or a failed exchange. -/
inductive ExchangeOutcome where
  | goodLevels (sent echoed : List Nat) (echo : LastEcho)
  | goodService (bytes : List Byte)
  | failed
deriving DecidableEq, Repr

/-- The record of a node id (R129). -/
def State.node (s : State) (id : Nat) : NodeRecord := s.nodes.getD (id - 1) NodeRecord.rest

/-- Replace the record of a node id. -/
def setNode (id : Nat) (r : NodeRecord) (s : State) : State := { s with nodes := s.nodes.set (id - 1) r }

/-- The expected level of a channel under a derate (R131). -/
def expectedLevel (derate : Byte) (sent : Nat) : Nat := sent * (derate.toNat + 1) / 256

/-- Two levels differ by more than a tolerance (R131). -/
def differsBy (tolerance a b : Nat) : Bool := decide (a + tolerance < b) || decide (b + tolerance < a)

/-- The echo has a mismatch on some channel (R131). -/
def echoMismatch (tolerance : Nat) (sent echoed : List Nat) (derate : Byte) : Bool :=
  (List.range 16).any fun k => differsBy tolerance (echoed.getD k 0) (expectedLevel derate (sent.getD k 0))

/-- The record after a good levels echo (R132, R133, R137). -/
def afterLevelsEcho (mismatchLimit : Nat) (mismatch : Bool) (echo : LastEcho) (r : NodeRecord) : NodeRecord :=
  if mismatch then
    { state := if mismatchLimit ≤ r.mismatchCount + 1 then .isolated else .suspect, mismatchCount := r.mismatchCount + 1,
      failCount := 0, lastEcho := some echo }
  else { state := .ok, mismatchCount := 0, failCount := 0, lastEcho := some echo }

/-- The record after a good service echo (R135). -/
def afterServiceEcho (r : NodeRecord) : NodeRecord :=
  { r with
    failCount := 0
    state := match r.state with
      | .unseen => .ok
      | .silent => if r.mismatchCount = 0 then .ok else .suspect
      | other => other }

/-- The record after a failed exchange (R134). -/
def afterFailure (silentLimit : Nat) (r : NodeRecord) : NodeRecord :=
  { r with
    failCount := min 255 (r.failCount + 1)
    state := if silentLimit ≤ min 255 (r.failCount + 1) then .silent else r.state }

/-- Latch a fault if a condition holds. -/
def latchIf (condition : Bool) (kind : FaultKind) (subject : Nat) (s : State) : State :=
  if condition then latch kind subject s else s

/-- The Node Supervisor takes an outcome for a node (R130 to R138); a record in ISOLATED is not changed (R136). The faults
of one outcome are latched in the order of R138. -/
def nodeOutcome (id : Nat) (o : ExchangeOutcome) (s : State) : State :=
  let r := s.node id
  if r.state = .isolated then s
  else
    match o with
    | .goodLevels sent echoed echo =>
      let r' := afterLevelsEcho (s.itemNat 1 6) (echoMismatch (s.itemNat 1 5) sent echoed echo.derate) echo r
      latchIf (decide (r'.state = .isolated)) .nodeIsolated id
        (latchIf (decide (echo.shortFlags ≠ 0)) .stringShort id
          (latchIf (decide (echo.openFlags ≠ 0)) .stringOpen id (setNode id r' s)))
    | .goodService _ => setNode id (afterServiceEcho r) s
    | .failed =>
      let r' := afterFailure (s.itemNat 1 7) r
      latchIf (decide (r.state ≠ .silent) && decide (r'.state = .silent)) .nodeSilent id (setNode id r' s)

/-- The code of a node state (R172). -/
def NodeState.code : NodeState → Nat
  | .unseen => 0
  | .ok => 1
  | .suspect => 2
  | .silent => 3
  | .isolated => 4

/-- The last-echo part as it is reported: all 0 while it is absent (R140). -/
def NodeRecord.reportedEcho (r : NodeRecord) : LastEcho :=
  r.lastEcho.getD { derate := 0, openFlags := 0, shortFlags := 0 }

/-- A node record in the reply to QUERY NODES: seven bytes (R140, R172, R174). -/
def NodeRecord.bytes (id : Nat) (r : NodeRecord) : List Byte :=
  byteOf (8 * id + r.state.code) ::
    byteOf (16 * r.mismatchCount + 8 * r.lastEcho.isSome.toNat + min 7 r.failCount) ::
    r.reportedEcho.derate :: (bytes16 r.reportedEcho.openFlags ++ bytes16 r.reportedEcho.shortFlags)

/-- All thirty records in ascending node id order (R140). -/
def nodesReport (s : State) : List Byte := (List.range 30).flatMap fun i => (s.node (i + 1)).bytes (i + 1)

end Sys2Proof.Machine
end

