-- ==== Sys2Proof/Machine/Lamps.lean ====
section
/-! DEFINITION. The Frame Buffers' slots, the Link Sequencer and the lamp ports (chapters 5 and 6). -/

namespace Sys2Proof.Machine

/-! ## Starting an exchange -/

/-- A block starts on a port (R114, R115). -/
def startExchange (port : Head) (node : Nat) (content : BlockContent) (s : State) : State :=
  { s with exchange := some { port, node, content, startedAt := s.micros, phase := .sending } }

/-- The group of the next block of a head's transfer: from the send cursor, ascending, wrapping at n_h (R120). -/
def State.nextGroup (s : State) (h : Head) : Nat := ((s.head h).cursor + s.progress) % s.nodeCount h

/-- The node that drives a group (R10, R120). -/
def State.groupNode (s : State) (h : Head) (g : Nat) : Nat := (s.firstNode h).toNat + g

/-- The levels of a levels block: sixteen zeros for an ISOLATED node, the live frame's otherwise (R121). -/
def blockLevels (s : State) (h : Head) (g : Nat) : List Nat :=
  if (s.node (s.groupNode h g)).state = .isolated then List.replicate 16 0
  else groupLevels ((s.head h).live.getD []) g

/-- The next levels block of a head's transfer is built and started (R120, R121). -/
def sendGroup (h : Head) (s : State) : State :=
  startExchange h (s.groupNode h (s.nextGroup h)) (.levels (blockLevels s h (s.nextGroup h))) s

/-! ## Arbitration -/

/-- A grant of a head: the staged frame goes live, and the transfer starts (R103, R119). -/
def grantHead (h : Head) (s : State) : State :=
  match (s.head h).staged with
  | none => s
  | some f =>
    sendGroup h
      { s.setHead h { s.head h with staged := none, live := some f.levels } with
        grant := .head h, grantStart := some s.micros, progress := 0 }

/-- A grant of the pass-through: it is in flight and its service block starts on the port of its node (R119, R126). -/
def grantPass (p : PassThrough) (s : State) : State :=
  startExchange ((s.routeOf p.node).getD .left) p.node (.service p.bytes)
    { s with grant := .pass, grantStart := some s.micros, passThrough := some { p with inFlight := true } }

/-- The pass-through is waiting (R118). -/
def State.passWaiting (s : State) : Bool :=
  match s.passThrough with
  | some p => !p.inFlight
  | none => false

/-- The head that wins an arbitration between the heads (R119): the earlier ready time, reckoned by its age (log 14); on a tie
the oncoming-side head. -/
def chooseHead (s : State) : Option Head :=
  match s.left.staged, s.right.staged with
  | none, none => none
  | some _, none => some .left
  | none, some _ => some .right
  | some l, some r =>
    if l.readyTime = r.readyTime then some s.oncoming
    else if ageOf s.timeBase r.readyTime < ageOf s.timeBase l.readyTime then some .left
    else some .right

/-- An arbitration of the free Link Sequencer: the pass-through first (R119). -/
def arbitrate (s : State) : State :=
  match s.passThrough with
  | some p => if p.inFlight then s else grantPass p s
  | none =>
    match chooseHead s with
    | some h => grantHead h s
    | none => s

/-- The arrival of a requester: an arbitration if the Link Sequencer is free (R118). -/
def requestArrived (s : State) : State := if s.grant = .none then arbitrate s else s

/-- A frame is handed to a head's staged slot, which it fills, or whose older frame it supersedes (R102). -/
def stageFrame (h : Head) (levels : List Nat) (s : State) : State :=
  let counted := if (s.head h).staged.isSome then countEvent (.superseded h) s else s
  requestArrived
    (counted.setHead h { counted.head h with staged := some { levels, readyTime := counted.timeBase } })

/-! ## The end of an exchange -/

/-- The end of a transfer, complete or truncated: the live slot is idle, the grant ends, and the Link Sequencer arbitrates
(R104, R124). -/
def endTransfer (h : Head) (s : State) : State :=
  arbitrate { s.setHead h { s.head h with live := none } with grant := .none }

/-- The hold budget is spent and another requester waits (R122). -/
def mustYield (h : Head) (s : State) : Bool :=
  decide (s.itemNat 1 4 ≤ s.micros - s.grantStart.getD s.micros) &&
    ((s.head h.other).staged.isSome || s.passWaiting)

/-- The send cursor of a truncated transfer moves on to the first unsent group (R122, R123). -/
def truncateTransfer (h : Head) (s : State) : State :=
  endTransfer h
    (countEvent (.truncated h)
      (s.setHead h { s.head h with cursor := ((s.head h).cursor + s.progress) % s.nodeCount h }))

/-- A transfer goes on after one of its exchanges: it is complete, truncated, or sends its next group (R120, R122). -/
def continueTransfer (h : Head) (s : State) : State :=
  let sent := { s with progress := s.progress + 1 }
  if sent.nodeCount h ≤ sent.progress then endTransfer h sent
  else if mustYield h sent then truncateTransfer h sent
  else sendGroup h sent

/-- The status and service bytes that answer a NODE PASS (R126, R173). -/
def passAnswer : ExchangeOutcome → Status × List Byte
  | .goodService bytes => (.ok, byteOf bytes.length :: bytes)
  | .goodLevels _ _ _ => (.nodeTimeout, [])
  | .failed => (.nodeTimeout, [])

/-- Answer the request that the Request Handler holds, if it holds one (R125). -/
def answerHeld (status : Status) (part : List Byte) (s : State) : State :=
  match s.handler with
  | .serving request => answer request status part s
  | .idle => s
  | .transmitting => s

/-- The pass-through completes: its reply is built, the grant ends, and the Link Sequencer arbitrates (R126). -/
def completePass (o : ExchangeOutcome) (s : State) : State :=
  arbitrate (answerHeld (passAnswer o).1 (passAnswer o).2 { s with grant := .none, passThrough := none })

/-- A failed exchange is counted for its port (R117). -/
def countFailure (port : Head) (o : ExchangeOutcome) (s : State) : State :=
  if o = .failed then countEvent (.echoFailures port) s else s

/-- The completion of an exchange: the outcome is handed to the Node Supervisor, a failure is counted, and the transfer or
the pass-through goes on or ends (R117, R122, R126). -/
def completeExchange (x : Exchange) (o : ExchangeOutcome) (s : State) : State :=
  let judged := countFailure x.port o (nodeOutcome x.node o { s with exchange := none })
  match s.grant with
  | .head h => continueTransfer h judged
  | .pass => completePass o judged
  | .none => judged

/-! ## Receiving an echo (R111, R115, R116) -/

/-- What the bytes of an echo so far say of its length. -/
inductive EchoProgress where
  | incomplete
  | complete
  | noLength
deriving DecidableEq, Repr

/-- The length of an echo comes from its kind, and of a service echo from its service length byte; a kind that is neither 1
nor 2, and a service length of 0 or above 20, fail at that byte (R111, R116). -/
def echoProgress (bytes : List Byte) : EchoProgress :=
  if bytes.length < 2 then .incomplete
  else if byteAt bytes 1 = 1 then if bytes.length < 29 then .incomplete else .complete
  else if byteAt bytes 1 = 2 then
    if bytes.length < 4 then .incomplete
    else if byteAt bytes 3 = 0 ∨ 20 < (byteAt bytes 3).toNat then .noLength
    else if bytes.length < (byteAt bytes 3).toNat + 5 then .incomplete
    else .complete
  else .noLength

/-- The CRC-8 of an echo is correct: over the bytes from the kind byte to the last payload byte (R112). -/
def echoIntact (bytes : List Byte) : Bool := crc8 bytes.tail.dropLast == byteAt bytes (bytes.length - 1)

/-- A complete echo is good for an exchange (R116). -/
def echoGood (x : Exchange) (bytes : List Byte) : Bool :=
  byteAt bytes 1 == x.content.kind && byteAt bytes 2 == byteOf x.node && echoIntact bytes

/-- The outcome of a good echo (R111, R117). -/
def echoOutcome (x : Exchange) (bytes : List Byte) : ExchangeOutcome :=
  match x.content with
  | .levels sent =>
    .goodLevels sent (unpackLevels ((bytes.drop 3).take 20))
      { derate := byteAt bytes 27, openFlags := word16 (byteAt bytes 23) (byteAt bytes 24),
        shortFlags := word16 (byteAt bytes 25) (byteAt bytes 26) }
  | .service _ => .goodService ((bytes.drop 4).take (byteAt bytes 3).toNat)

/-- The exchange moves to a phase. -/
def setPhase (x : Exchange) (phase : ExchangePhase) (s : State) : State := { s with exchange := some { x with phase } }

/-- A byte of an echo after its start byte (R115, R116). -/
def receiveEchoBody (x : Exchange) (endedAt : Nat) (bytes : List Byte) (s : State) : State :=
  match echoProgress bytes with
  | .incomplete => setPhase x (.receiving endedAt bytes (some s.micros)) s
  | .noLength => setPhase x (.failed endedAt (some s.micros)) s
  | .complete =>
    if echoGood x bytes then completeExchange x (echoOutcome x bytes) s
    else setPhase x (.failed endedAt (some s.micros)) s

/-- A byte arrives on the echo-in line of a port, its stop bit found low or not (R114, R115, R116). -/
def receiveEchoByte (port : Head) (b : Byte) (stopLow : Bool) (s : State) : State :=
  match s.exchange with
  | none => s
  | some x =>
    if x.port ≠ port then s
    else
      match x.phase with
      | .sending => s
      | .awaiting endedAt =>
        if stopLow = false ∧ b = 0xE2 then setPhase x (.receiving endedAt [b] (some s.micros)) s else s
      | .receiving endedAt bytes _ =>
        if stopLow then setPhase x (.failed endedAt (some s.micros)) s else receiveEchoBody x endedAt (bytes ++ [b]) s
      | .failed endedAt _ => setPhase x (.failed endedAt (some s.micros)) s

/-- The start bit of a byte comes in on the echo-in line of a port: inside an echo, or after one that has failed, the line is
no longer silent (R109, R115). -/
def beginEchoByte (port : Head) (s : State) : State :=
  match s.exchange with
  | none => s
  | some x =>
    if x.port ≠ port then s
    else
      match x.phase with
      | .sending => s
      | .awaiting _ => s
      | .receiving endedAt bytes _ => setPhase x (.receiving endedAt bytes none) s
      | .failed endedAt _ => setPhase x (.failed endedAt none) s

/-- What an echo-in line brings; a start bit has no stop bit yet. -/
def receiveEchoInput (port : Head) (input : LineInput) (stopLow : Bool) (s : State) : State :=
  match input with
  | .startBit => beginEchoByte port s
  | .byte b => receiveEchoByte port b stopLow s

/-! ## The moments of an exchange -/

/-- echo_timeout (R115). -/
def State.echoTimeout (s : State) : Nat := s.itemNat 1 3

/-- The moment at which the block in flight has been sent (R109, R115). -/
def blockEnd (x : Exchange) : Nat := x.startedAt + x.blockDuration

/-- The block has been sent: the echo is awaited (R115). -/
def finishBlock (s : State) : State :=
  match s.exchange with
  | none => s
  | some x => setPhase x (.awaiting s.micros) s

/-- The exchange in flight completes as failed, by timeout or by format (R115, R116). -/
def failExchange (s : State) : State :=
  match s.exchange with
  | none => s
  | some x => completeExchange x .failed s

end Sys2Proof.Machine
end

