-- ==== Sys2Proof/Machine/Targets.lean ====
section
/-! DEFINITION. The Target Table (chapter 2): observations and their outcomes, removal, aging and clearing. -/

namespace Sys2Proof.Machine

/-- The slot holds the entry of an id. -/
def holdsId (id : Nat) : Option Entry → Bool
  | some e => e.id == id
  | none => false

/-- The slot of the entry with an id, if the table holds one (R18). -/
def slotOf (id : Nat) (slots : List (Option Entry)) : Option Nat := slots.findIdx? (holdsId id)

/-- The lowest-numbered free slot (R31). -/
def freeSlot (slots : List (Option Entry)) : Option Nat := slots.findIdx? Option.isNone

/-- What an observation brings from the header of its TRACK: the obs_time and the exposure cab pitch after its clamp
(R23). -/
structure Exposure where
  obsTime : Millis
  cabPitch : Int
deriving DecidableEq, Repr

/-- An observation with LEAVING clear is refused for a field (R25). -/
def Observation.badFields (o : Observation) : Bool :=
  o.id == 0 || decide (63 < o.id) || decide (5 < o.cls) ||
  decide (o.azR < o.azL) || decide (o.azL < -1024) || decide (1023 < o.azL) || decide (o.azR < -1024) ||
  decide (1023 < o.azR) ||
  decide (o.elevTop < o.elevBottom) || decide (o.elevBottom < -256) || decide (255 < o.elevBottom) ||
  decide (o.elevTop < -256) || decide (255 < o.elevTop)

/-- An observation with LEAVING set is checked for its id alone (R25). -/
def Observation.badId (o : Observation) : Bool := o.id == 0 || decide (63 < o.id)

/-- The rate and the range after their clamps (R26). -/
def Observation.clamped (o : Observation) : Observation :=
  { o with rate := clampTo (-2000) 2000 o.rate, range := min o.range 8191 }

/-- The clamped mark: the rate or the range was clamped (R26). -/
def Observation.clampedMark (o : Observation) : Bool :=
  decide (o.rate < -2000) || decide (2000 < o.rate) || decide (8191 < o.range)

/-- The tier of a class: the class map of calibration table 3 (R45). -/
def State.tierOf (s : State) (cls : Nat) : Nat := s.itemNat 3 cls

/-- The entry that an observation writes, with the hits and state of the rule that writes it (R27). -/
def entryFrom (s : State) (x : Exposure) (o : Observation) (hits : Nat) (state : EntryState) : Entry :=
  { id := o.id, cls := o.cls, tier := s.tierOf o.cls, azL := o.azL, azR := o.azR, rate := o.rate,
    elevB := o.elevBottom + x.cabPitch, elevT := o.elevTop + x.cabPitch, range := o.range, confidence := o.confidence,
    obsTime := x.obsTime, hits, state }

/-- confirm_hits (R20). -/
def State.confirmHits (s : State) : Nat := s.itemNat 2 1

/-- The state of an entry after an update that left it with some hits (R29). -/
def updatedState (s : State) (old : EntryState) (hits : Nat) : EntryState :=
  match old with
  | .tentative => if s.confirmHits ≤ hits then .active else .tentative
  | .active => .active
  | .coasting => .active

/-- The entry after an update (R29). -/
def updatedEntry (s : State) (x : Exposure) (o : Observation) (old : Entry) : Entry :=
  let hits := min 15 (old.hits + 1)
  entryFrom s x o hits (updatedState s old.state hits)

/-- The entry of a new id: hits 1, ACTIVE if confirm_hits is 1 and TENTATIVE otherwise (R31). -/
def newEntry (s : State) (x : Exposure) (o : Observation) : Entry :=
  entryFrom s x o 1 (if s.confirmHits = 1 then .active else .tentative)

/-- `a` goes before `b` among the eviction candidates by tier, range and age (R33, comparisons 1 to 3). -/
def evictedBefore (now : Millis) (a b : Entry) : Bool :=
  decide (a.tier < b.tier) || (a.tier == b.tier &&
    (decide (b.range < a.range) || (a.range == b.range &&
      decide (ageOf now b.obsTime < ageOf now a.obsTime))))

/-- The candidates with their slots: all TENTATIVE entries if there is one, otherwise the entries of a tier lower than the
new observation's (R32). -/
def evictionCandidates (slots : List (Option Entry)) (tier : Nat) : List (Nat × Entry) :=
  let held := slots.zipIdx.filterMap fun p => p.1.map fun e => (p.2, e)
  let tentative := held.filter fun p => decide (p.2.state = .tentative)
  if tentative.isEmpty then held.filter fun p => decide (p.2.tier < tier) else tentative

/-- The victim: the first by R33; among equals the lowest slot, since the candidates stand in slot order. -/
def chooseVictim (now : Millis) : List (Nat × Entry) → Option (Nat × Entry)
  | [] => none
  | p :: ps => some (ps.foldl (fun best q => if evictedBefore now q.2 best.2 then q else best) p)

/-- Write a slot. -/
def setSlot (i : Nat) (e : Option Entry) (s : State) : State := { s with slots := s.slots.set i e }

/-- The result of one observation. -/
structure Observed where
  state : State
  outcome : ObsOutcome
  mark : Bool

/-- A new id is admitted into a free slot, or by eviction, or not (R30 to R34). -/
def admitNew (x : Exposure) (o : Observation) (s : State) : State × ObsOutcome :=
  if o.confidence < s.itemNat 2 0 then (countEvent .obsRefused s, .refusedConfidence)
  else
    match freeSlot s.slots with
    | some i => (setSlot i (some (newEntry s x o)) s, .added)
    | none =>
      match chooseVictim s.timeBase (evictionCandidates s.slots (s.tierOf o.cls)) with
      | some (i, victim) => (countEvent .evictions (setSlot i (some (newEntry s x o)) s), .addedEvicting victim.id)
      | none => (countEvent .obsTableFull s, .tableFull)

/-- An observation with LEAVING set and a valid id (R28). -/
def removeLeaving (id : Nat) (s : State) : State × ObsOutcome :=
  match slotOf id s.slots with
  | some i => (setSlot i none s, .removed)
  | none => (s, .notFound)

/-- An observation with LEAVING clear that passes R25, after the clamps of R26: an update in place or an admission (R29,
R30). -/
def writeObservation (x : Exposure) (o : Observation) (s : State) : State × ObsOutcome :=
  match slotOf o.id s.slots with
  | some i =>
    match s.slots.getD i none with
    | some old => (setSlot i (some (updatedEntry s x o old)) s, .updated)
    | none => admitNew x o s
  | none => admitNew x o s

/-- One observation receives its one outcome (R24 to R34). -/
def observe (x : Exposure) (o : Observation) (s : State) : Observed :=
  if o.leaving then
    if o.badId then { state := countEvent .obsRefused s, outcome := .refusedField, mark := false }
    else
      let r := removeLeaving o.id s
      { state := r.1, outcome := r.2, mark := false }
  else if o.badFields then { state := countEvent .obsRefused s, outcome := .refusedField, mark := false }
  else
    let r := writeObservation x o.clamped s
    { state := r.1, outcome := r.2, mark := o.clampedMark }

/-- The observations of a request, in their order (R24), with the reply bytes and whether any carries a clamped mark (R36). -/
def observeAll (x : Exposure) : List Observation → State → State × List Byte × Bool
  | [], s => (s, [], false)
  | o :: os, s =>
    let r := observe x o s
    let rest := observeAll x os r.state
    (rest.1, r.outcome.bytes r.mark ++ rest.2.1, r.mark || rest.2.2)

/-- Clearing frees all sixteen slots (R42). -/
def clearTable (s : State) : State := { s with slots := freeSlots }

/-- What DROP does to the table, and the number of entries removed (R37). -/
def dropEntries (id : Nat) (s : State) : State × Nat :=
  if id = 0 then (clearTable s, s.occupancy)
  else
    match slotOf id s.slots with
    | some i => (setSlot i none s, 1)
    | none => (s, 0)

/-- One slot aged at a frame start (R38). -/
def ageSlot (coastStart coastLimit : Int) (now : Millis) (slot : Option Entry) : Option Entry :=
  match slot with
  | none => none
  | some e =>
    let age : Int := ageOf now e.obsTime
    if coastLimit < age then none
    else if e.state = .active ∧ coastStart < age then some { e with state := .coasting }
    else some e

/-- coast_start and coast_limit (R20, R38). -/
def State.coastStart (s : State) : Int := s.item 2 2
def State.coastLimit (s : State) : Int := s.item 2 3

/-- The table ages its entries at the time-base value of a frame start (R38). -/
def ageTable (now : Millis) (s : State) : State :=
  { s with slots := s.slots.map (ageSlot s.coastStart s.coastLimit now) }

/-- The code of an entry state (R172). -/
def EntryState.code : EntryState → Nat
  | .tentative => 0
  | .active => 1
  | .coasting => 2

/-- A slot as QUERY TARGETS reports it: 112 bits (R44, R172, R174). -/
def entryBytes (now : Millis) (slot : Nat) (e : Entry) : List Byte :=
  packBits 14 (bitsOfNat 4 slot ++ bitsOfNat 2 e.state.code ++ bitsOfNat 4 e.hits ++ bitsOfNat 6 e.id ++ bitsOfNat 3 e.cls ++ bitsOfNat 2 e.tier ++ bitsOfNat 4 e.confidence ++
    bitsOfInt 11 e.azL ++ bitsOfInt 11 e.azR ++ bitsOfInt 12 e.rate ++ bitsOfInt 10 e.elevB ++ bitsOfInt 10 e.elevT ++
    bitsOfNat 13 e.range ++ bitsOfNat 16 (min 65535 (ageOf now e.obsTime)) ++ bitsOfNat 4 0)

/-- The occupied slots in ascending order (R44). -/
def targetsReport (s : State) : List Byte :=
  s.slots.zipIdx.flatMap fun p =>
    match p.1 with
    | some e => entryBytes s.timeBase p.2 e
    | none => []

end Sys2Proof.Machine
end

