-- ==== Sys2Proof/Machine/Shaping.lean ====
section
/-! DEFINITION. The Scene Input and the Beam Shaper (chapter 4). -/

namespace Sys2Proof.Machine

/-! ## Scene values (R68 to R71) -/

/-- The speed field of a SCENE (R69), with whether it was clamped. -/
def takeSpeed (v : Nat) (r : SceneRecord) : SceneRecord × Bool :=
  if v ≤ 1500 then ({ r with speed := v, speedKnown := true, speedHeld := false }, false)
  else if v < 65535 then ({ r with speed := 1500, speedKnown := true, speedHeld := false }, true)
  else if r.speedKnown then ({ r with speedHeld := true }, false)
  else (r, false)

/-- The yaw rate field of a SCENE (R70), with whether it was clamped. -/
def takeYaw (v : Int) (r : SceneRecord) : SceneRecord × Bool :=
  if v = -32768 then ({ r with yawValid := false }, false)
  else ({ r with yawRate := clampTo (-12000) 12000 v, yawValid := true }, decide (v < -12000) || decide (12000 < v))

/-- The chassis pitch field of a SCENE (R70), with whether it was clamped. -/
def takePitch (v : Int) (r : SceneRecord) : SceneRecord × Bool :=
  if v = -32768 then (r, false)
  else ({ r with chassisPitch := clampTo (-320) 320 v }, decide (v < -320) || decide (320 < v))

/-- The record after a SCENE payload taken at a time, with whether a value was clamped (R68 to R70). -/
def takeScene (payload : List Byte) (now : Millis) (r : SceneRecord) : SceneRecord × Bool :=
  let a := takeSpeed (unsignedAt payload 0) r
  let b := takeYaw (signedAt payload 2) a.1
  let c := takePitch (signedAt payload 4) b.1
  ({ c.1 with highBeam := (byteAt payload 6).getLsbD 0, lastTime := now, accepted := true }, a.2 || b.2 || c.2)

/-- The scene snapshot (R71). -/
def SceneRecord.snapshot (r : SceneRecord) : SceneSnapshot :=
  { speed := r.speed, speedKnown := r.speedKnown, yawRate := r.yawRate, yawValid := r.yawValid,
    chassisPitch := r.chassisPitch, highBeam := r.highBeam }

/-! ## Curve bend (R75 to R77) -/

/-- The bend target before its clamp (R75). -/
def bendRaw (s : State) (n : SceneSnapshot) : Int :=
  if !n.speedKnown || !n.yawValid || decide (n.speed < 50) then 0
  else
    let v : Int := n.speed
    let preview := clampTo (s.item 7 1) (s.item 7 2) (truncDiv (v * s.item 7 0) 3600)
    truncDiv (576 * n.yawRate * preview) (1000 * v)

/-- The slewed bend (R76): the clamp comes before the slew. -/
def slewedBend (s : State) (n : SceneSnapshot) (prev : Int) : Int :=
  let bendMax := s.item 7 3
  let slew := s.item 7 4
  prev + clampTo (-slew) slew (clampTo (-bendMax) bendMax (bendRaw s n) - prev)

/-- The share of the outside head (R77). -/
def outerShare (s : State) (bend : Int) : Int := truncDiv (bend * s.item 7 5) 256

/-- The share of a head: the inside head, right for a bend above 0 and left below, takes the bend (R77). -/
def bendShare (s : State) (bend : Int) : Head → Int
  | .left => if 0 < bend then outerShare s bend else bend
  | .right => if bend < 0 then outerShare s bend else bend

/-! ## Pitch filter and pitch ceiling (R78, R79) -/

/-- The filtered chassis pitch (R78). -/
def filterPitch (s : State) (p : Int) : Option Int → Int
  | none => p
  | some pf => pf + truncDiv ((p - pf) * s.item 7 6) 256

/-- The rows at or above the pitch ceiling (R79). -/
def rowsAtCeiling (s : State) (pf : Int) : List Nat :=
  (List.range 4).filter fun r => decide (s.item 7 7 ≤ rowLow r + pf)

/-! ## Profile selection (R80, R81) -/

/-- The first selection, without hysteresis (R80). -/
def firstProfile (s : State) (n : SceneSnapshot) : Profile :=
  let v : Int := n.speed
  if !n.speedKnown then .country
  else if v < s.item 7 9 then .town
  else if v < s.item 7 10 then .country
  else .motorway

/-- A later selection: at most one step by the table of R81. -/
def nextProfile (s : State) (n : SceneSnapshot) (p : Profile) : Profile :=
  let v : Int := n.speed
  let t1 := s.item 7 9
  let t2 := s.item 7 10
  let h := s.item 7 11
  if !n.speedKnown then p
  else
    match p with
    | .town => if t2 + h ≤ v then .motorway else if t1 + h ≤ v then .country else .town
    | .country => if t2 + h ≤ v then .motorway else if v < t1 - h then .town else .country
    | .motorway => if v < t1 - h then .town else if v < t2 - h then .country else .motorway

/-- Profile selection of one composition (R80, R81). -/
def selectProfile (s : State) (n : SceneSnapshot) : Option Profile → Profile
  | none => firstProfile s n
  | some p => nextProfile s n p

/-! ## The Beam Shaper stage (R74) -/

/-- The new shaper state of a stage. -/
def shapedState (s : State) (n : SceneSnapshot) : Shaper :=
  let bend := slewedBend s n s.shaper.prev
  { profile := some (selectProfile s n s.shaper.profile), prev := bend, pf := some (filterPitch s n.chassisPitch s.shaper.pf),
    bendLeft := bendShare s bend .left, bendRight := bendShare s bend .right }

/-- The results that the stage hands the composition. -/
def shapedResults (s : State) (n : SceneSnapshot) : ShaperResults :=
  let bend := slewedBend s n s.shaper.prev
  { profile := selectProfile s n s.shaper.profile, bendLeft := bendShare s bend .left, bendRight := bendShare s bend .right,
    darkRows := rowsAtCeiling s (filterPitch s n.chassisPitch s.shaper.pf), highBeam := n.highBeam }

/-- The bend of a head in a composition. -/
def ShaperResults.bend (r : ShaperResults) : Head → Int
  | .left => r.bendLeft
  | .right => r.bendRight

/-- An age in ms, capped at 65535 and reported as 65535 while nothing has been accepted (R82). -/
def reportedAge (accepted : Bool) (now last : Millis) : Nat := if accepted then min 65535 (ageOf now last) else 65535

/-- QUERY SUMMARY behind its kind byte: scene record, shaper record, age of the last TRACK (R82, R174). -/
def summaryReport (s : State) : List Byte :=
  bytesOfNat16 (if s.scene.speedKnown then s.scene.speed else 65535) ++
  bytesOfInt16 (if s.scene.yawValid then s.scene.yawRate else -32768) ++
  bytesOfInt16 s.scene.chassisPitch ++
  bytesOfNat16 (reportedAge s.scene.accepted s.timeBase s.scene.lastTime) ++
  [byteOf (profileCode s.shaper.profile)] ++
  bytesOfInt16 s.shaper.prev ++ bytesOfInt16 s.shaper.bendLeft ++ bytesOfInt16 s.shaper.bendRight ++
  bytesOfInt16 (s.shaper.pf.getD (-32768)) ++
  bytesOfNat16 (reportedAge s.trackAccepted s.timeBase s.lastTrackTime)

end Sys2Proof.Machine
end

