-- ==== Sys2Proof/Machine/Shadows.lean ====
section
/-! DEFINITION. The Shadow Builder (chapter 3): the window of one entry in one head, and the merged shadow list. -/

namespace Sys2Proof.Machine

/-! ## Tier records (R46) -/

def State.tierMargin (s : State) (t : Nat) : Int := s.item 3 (6 + 4 * t)
def State.tierVmargin (s : State) (t : Nat) : Int := s.item 3 (7 + 4 * t)
def State.tierResidual (s : State) (t : Nat) : Nat := s.itemNat 3 (8 + 4 * t)
def State.tierLead (s : State) (t : Nat) : Bool := decide (s.item 3 (9 + 4 * t) = 1)

/-! ## The window of one entry in one head -/

/-- The age of an entry for its window (R48). -/
def windowAge (s : State) (frameStart : Millis) (e : Entry) : Int := min (ageOf frameStart e.obsTime : Int) s.coastLimit

/-- The prediction shift (R49). -/
def predictionShift (age : Int) (e : Entry) : Int := truncDiv (e.rate * age) 1000

/-- The parallax of a head at an entry's range (R50). -/
def parallax (s : State) (h : Head) (e : Entry) : Int :=
  if e.range = 0 then 0 else roundDiv (s.offset h * 11734) (64 * (e.range : Int))

/-- The coasting growth (R51). -/
def coastingGrowth (s : State) (age : Int) (e : Entry) : Int :=
  if e.state = .coasting then min (truncDiv (s.item 2 4 * (age - s.coastStart)) 10) (s.item 2 5) else 0

/-- The margin of a window (R51). -/
def windowMargin (s : State) (age : Int) (e : Entry) : Int :=
  s.tierMargin e.tier + (if e.range = 0 then s.item 2 6 else 0) + coastingGrowth s age e

/-- The lead of a window (R52). -/
def windowLead (s : State) (e : Entry) : Int :=
  if s.tierLead e.tier then min (truncDiv ((e.rate.natAbs : Int) * s.item 2 7) 1000) (s.item 2 8) else 0

/-- The left edge of the window in the head frame (R53). -/
def leftEdge (s : State) (h : Head) (age : Int) (e : Entry) : Int :=
  e.azL + predictionShift age e - parallax s h e - windowMargin s age e - (if e.rate < 0 then windowLead s e else 0)

/-- The right edge of the window in the head frame (R53). -/
def rightEdge (s : State) (h : Head) (age : Int) (e : Entry) : Int :=
  e.azR + predictionShift age e - parallax s h e + windowMargin s age e + (if 0 < e.rate then windowLead s e else 0)

/-- The column of a head-frame azimuth, off the matrix below 0 and above 47 (R6). -/
def columnOf (a : Int) : Int := floorDiv a 16 + 24

/-- The rows that an elevation interval covers, in ascending order (R55). -/
def coveredRows (bottom top : Int) : List Nat :=
  (List.range 4).filter fun r => decide (rowLow r ≤ top) && decide (bottom ≤ rowLow r + 31)

/-- The window of an entry in a head, or none (R48 to R56). -/
def windowOf (s : State) (h : Head) (frameStart : Millis) (e : Entry) : Option Window :=
  let age := windowAge s frameStart e
  let first := columnOf (leftEdge s h age e)
  let last := columnOf (rightEdge s h age e)
  let vmargin := s.tierVmargin e.tier
  if 47 < first ∨ last < 0 then none
  else
    match coveredRows (e.elevB - vmargin) (e.elevT + vmargin) with
    | [] => none
    | bottom :: rows =>
      some { first := (max first 0).toNat, last := (min last 47).toNat, bottom, top := rows.getLastD bottom,
             residual := s.tierResidual e.tier }

/-- The windows of a head before merging, in slot order: one for each ACTIVE or COASTING entry that yields one (R47). -/
def entryWindows (s : State) (h : Head) (frameStart : Millis) (targets : List (Option Entry)) : List Window :=
  targets.filterMap fun slot =>
    match slot with
    | some e => if e.state = .tentative then none else windowOf s h frameStart e
    | none => none

/-! ## The shadow list (R57 to R60) -/

/-- Put a window behind those whose first column is not above its own. -/
def insertWindow (w : Window) : List Window → List Window
  | [] => [w]
  | x :: xs => if w.first < x.first then w :: x :: xs else x :: insertWindow w xs

/-- Sorted by first column, equal first columns in the order they came (R57). -/
def sortWindows (ws : List Window) : List Window := ws.foldl (fun sorted w => insertWindow w sorted) []

/-- The smallest rectangle holding two windows, at the lower residual (R59). -/
def Window.merge (current next : Window) : Window :=
  { first := current.first, last := max current.last next.last, bottom := min current.bottom next.bottom,
    top := max current.top next.top, residual := min current.residual next.residual }

/-- The columns strictly between two windows; below 0 if they overlap (R58). -/
def Window.gap (current next : Window) : Int := (next.first : Int) - (current.last : Int) - 1

/-- The pass of R58 from a current window. -/
def mergeFrom (bridge : Int) (current : Window) : List Window → List Window
  | [] => [current]
  | next :: rest =>
    if current.gap next < bridge then mergeFrom bridge (current.merge next) rest
    else current :: mergeFrom bridge next rest

/-- The merged list of sorted windows (R58). -/
def mergeWindows (bridge : Int) : List Window → List Window
  | [] => []
  | w :: ws => mergeFrom bridge w ws

/-- bridge_cols (R58). -/
def State.bridgeCols (s : State) : Int := s.item 2 9

/-- The shadow list of a head for one composition (R47 to R60). -/
def shadowList (s : State) (h : Head) (frameStart : Millis) (targets : List (Option Entry)) : List Window :=
  mergeWindows s.bridgeCols (sortWindows (entryWindows s h frameStart targets))

/-- A window covers segment (c, r) (R56). -/
def Window.covers (w : Window) (c r : Nat) : Bool :=
  decide (w.first ≤ c) && decide (c ≤ w.last) && decide (w.bottom ≤ r) && decide (r ≤ w.top)

/-- A window in the reply to QUERY SHADOWS (R66, R174). -/
def Window.bytes (w : Window) : List Byte :=
  [byteOf w.first, byteOf w.last, byteOf w.bottom, byteOf w.top] ++ bytesOfNat16 w.residual

end Sys2Proof.Machine
end

