-- ==== Sys2Proof/Machine/Levels.lean ====
section
/-! DEFINITION. The levels of one head in one composition (chapter 5): envelope, shadows, safe pattern and ramp. -/

namespace Sys2Proof.Machine

/-- The calibration table of a profile (R15). -/
def Profile.table : Profile → Nat
  | .town => 4
  | .country => 5
  | .motorway => 6

/-- The profile column level L[j], 0 outside the matrix (R89). -/
def profileLevel (s : State) (p : Profile) (j : Int) : Int :=
  if 0 ≤ j ∧ j ≤ 47 then s.item p.table j.toNat else 0

/-- The row gain of a profile, in 1/256 (R15). -/
def rowGain (s : State) (p : Profile) (r : Nat) : Int := s.item p.table (48 + r)

/-- The column level E(c) of a head whose bend is `shift` (R89). -/
def columnLevel (s : State) (p : Profile) (shift : Int) (c : Nat) : Int :=
  let position := 16 * (c : Int) - shift
  let i := floorDiv position 16
  let f := position - 16 * i
  truncDiv (profileLevel s p i * (16 - f) + profileLevel s p (i + 1) * f) 16

/-- The unshadowed envelope level of segment (c, r) of a head (R90). -/
def envelopeLevel (s : State) (results : ShaperResults) (h : Head) (c r : Nat) : Nat :=
  if !results.highBeam || results.darkRows.contains r || s.undriven h c then 0
  else (truncDiv (columnLevel s results.profile (results.bend h) c * rowGain s results.profile r) 256).toNat

/-- The smallest of a level and the residuals of the windows that cover segment (c, r) (R91). -/
def shadowedLevel (windows : List Window) (c r level : Nat) : Nat :=
  windows.foldl (fun low w => if w.covers c r then min low w.residual else low) level

/-- The target of segment (c, r) in the SAFE pattern (R96). -/
def safeTarget (s : State) (highBeam : Bool) (h : Head) (c r : Nat) : Nat :=
  if s.undriven h c then 0 else if r = 0 ∧ highBeam = true then s.itemNat 0 6 else 0

/-- The ramp of one segment (R93). -/
def ramp (upStep old target : Nat) : Nat := if target ≤ old then target else min target (old + upStep)

/-- up_step (R93). -/
def State.upStep (s : State) : Nat := s.itemNat 7 8

/-- The shadow list that a composition uses for a head: none in the SAFE pattern (R61, R63). -/
def compositionShadows (s : State) (c : Composition) (h : Head) : List Window :=
  match c.pattern with
  | .envelope => shadowList s h c.frameStart c.targets
  | .safe => []

/-- The target of segment (col, r) of a head in a composition (R91, R96). -/
def segmentTarget (s : State) (c : Composition) (h : Head) (windows : List Window) (col r : Nat) : Nat :=
  match c.pattern with
  | .envelope => shadowedLevel windows col r (envelopeLevel s c.results h col r)
  | .safe => safeTarget s c.scene.highBeam h col r

/-- The new levels of a head (R93, R94). -/
def composedLevels (s : State) (c : Composition) (h : Head) (windows : List Window) : List Nat :=
  matrixOf fun col r => ramp s.upStep (levelAt (s.head h).applied col r) (segmentTarget s c h windows col r)

end Sys2Proof.Machine
end

