-- ==== Sys2Proof/Machine/Composer.lean ====
section
/-! DEFINITION. The Composer, the frame clock and the DIRECT bypass (chapter 5). -/

namespace Sys2Proof.Machine

/-- The frame period (R83). -/
def State.framePeriod (s : State) : Int := s.item 1 0

/-- The pattern chosen when a frame start is taken (R85). -/
def State.pattern (s : State) : Pattern :=
  if s.mode = .active ∧ s.trackPending = false then .envelope else .safe

/-- An idle Composer takes a frame start (R86, stages 1 to 3): the table ages and yields its snapshot, the scene snapshot is
taken, and the Beam Shaper stage runs. -/
def beginComposition (s : State) : State :=
  let aged := ageTable s.timeBase s
  let scene := aged.scene.snapshot
  { aged with
    shaper := shapedState aged scene
    composition := some
      { frameStart := s.timeBase, pattern := s.pattern, targets := aged.slots, scene, results := shapedResults aged scene,
        remaining := s.presentHeads, shadowsLeft := [], shadowsRight := [] } }

/-- The direct frame of a head is staged as it stands (R100). -/
def stageDirect (h : Head) (s : State) : State := stageFrame h (s.head h).direct s

/-- In DIRECT each present head's direct frame is staged, the oncoming-side head first (R100). -/
def stageDirectFrames (s : State) : State := s.presentHeads.foldl (fun t h => stageDirect h t) s

/-- A frame start at the present time (R83, R84): to the Composer in ACTIVE and SAFE, to the Frame Buffers in DIRECT. -/
def takeFrameStart (s : State) : State :=
  match s.mode with
  | .active => if s.composition.isSome then countEvent .framesSkipped s else beginComposition s
  | .safe => if s.composition.isSome then countEvent .framesSkipped s else beginComposition s
  | .direct => stageDirectFrames s
  | .start => s
  | .standby => s

/-- The frame clock has reached its phase: the next frame start falls one period later, and this one is taken (R83). -/
def frameClock (s : State) : State :=
  takeFrameStart { s with framePhase := s.framePhase.map (· + millis s.framePeriod) }

/-- The lists of the composition replace the stored lists of both heads together, and the Composer is idle (R62, R63). -/
def completeComposition (c : Composition) (s : State) : State :=
  { s with
    left := { s.left with shadows := c.shadowsLeft }
    right := { s.right with shadows := c.shadowsRight }
    composition := none }

/-- The composition with a head composed: the head is done, and its list is kept until the composition completes (R61). -/
def Composition.composed (c : Composition) (h : Head) (windows : List Window) (rest : List Head) : Composition :=
  match h with
  | .left => { c with remaining := rest, shadowsLeft := windows }
  | .right => { c with remaining := rest, shadowsRight := windows }

/-- The end of the stage of head `h`: its new levels replace its applied levels and are handed to its staged slot (R94). -/
def endHeadStage (c : Composition) (h : Head) (rest : List Head) (s : State) : State :=
  let windows := compositionShadows s c h
  let levels := composedLevels s c h windows
  let next := c.composed h windows rest
  let staged := stageFrame h levels { s.setHead h { s.head h with applied := levels } with composition := some next }
  if rest = [] then completeComposition next staged else staged

/-- The head stage in progress ends (R86, R94); with no head left the composition completes. -/
def finishHeadStage (s : State) : State :=
  match s.composition with
  | none => s
  | some c =>
    match c.remaining with
    | [] => completeComposition c s
    | h :: rest => endHeadStage c h rest s

end Sys2Proof.Machine
end

