-- ==== Sys2Proof/Machine/Modes.lean ====
section
/-! DEFINITION. The Mode Controller (chapter 8): timers, the consistency check, entries, SAFE, recovery and teardown. -/

namespace Sys2Proof.Machine

/-! ## Timers (R147) -/

/-- The deadline of a timer started now with a timeout. -/
def State.deadline (s : State) (timeout : Int) : Millis := s.timeBase + millis timeout

/-- scene_timeout and track_timeout (R147). -/
def State.sceneTimeout (s : State) : Int := s.item 1 1
def State.trackTimeout (s : State) : Int := s.item 1 2

/-- Start or restart the scene timer. -/
def startSceneTimer (s : State) : State := { s with sceneTimer := some (s.deadline s.sceneTimeout) }

/-- Start or restart the track timer. -/
def startTrackTimer (s : State) : State := { s with trackTimer := some (s.deadline s.trackTimeout) }

/-! ## The consistency check (R146) -/

/-- One condition of the check, with the table and item that its failure reports. -/
structure Condition where
  holds : Bool
  table : Nat
  item : Nat

/-- A head's first id is at least 1, or the head is absent (conditions 1 and 3). -/
def State.firstFits (s : State) (h : Head) : Bool := !s.present h || decide (1 ≤ s.firstNode h)

/-- A head's last id is at least its first and its node count at most 12, or the head is absent (conditions 2 and 4). -/
def State.lastFits (s : State) (h : Head) : Bool :=
  !s.present h || (decide (s.firstNode h ≤ s.lastNode h) && decide (s.lastNode h - s.firstNode h + 1 ≤ 12))

/-- No node id lies in both ranges, if both heads are present (condition 6). -/
def State.rangesDisjoint (s : State) : Bool :=
  !(s.present .left && s.present .right) ||
    decide (min (s.lastNode .left) (s.lastNode .right) < max (s.firstNode .left) (s.firstNode .right))

/-- The nine conditions in their order (R146). -/
def State.conditions (s : State) : List Condition :=
  [⟨s.firstFits .left, 0, 2⟩, ⟨s.lastFits .left, 0, 3⟩, ⟨s.firstFits .right, 0, 4⟩, ⟨s.lastFits .right, 0, 5⟩,
   ⟨s.present .left || s.present .right, 0, 2⟩, ⟨s.rangesDisjoint, 0, 4⟩,
   ⟨decide (s.coastStart ≤ s.coastLimit), 2, 2⟩, ⟨decide (s.item 7 1 ≤ s.item 7 2), 7, 1⟩,
   ⟨decide (s.item 7 9 + s.item 7 11 < s.item 7 10 - s.item 7 11), 7, 9⟩]

/-- The first condition that fails (R146). -/
def State.firstFailure (s : State) : Option Condition := s.conditions.find? fun c => !c.holds

/-! ## Entries -/

/-- The HOLD line of each present head is released; an absent head's stays asserted (R107). -/
def releaseHolds (s : State) : State :=
  { s with
    left := { s.left with hold := !s.present .left }
    right := { s.right with hold := !s.present .right } }

/-- The frame clock starts: the first frame start falls one frame period later (R83). -/
def startFrameClock (s : State) : State := { s with framePhase := some (s.timeBase + millis s.framePeriod) }

/-- Entry to ACTIVE from STANDBY (R148). -/
def enterActive (s : State) : State :=
  startFrameClock (releaseHolds (startTrackTimer (startSceneTimer
    { s with mode := .active, trackPending := true, sceneSeen := false, trackSeen := false })))

/-- Both direct frames are set to 0 (R98). -/
def zeroDirect (s : State) : State :=
  { s with left := { s.left with direct := darkFrame }, right := { s.right with direct := darkFrame } }

/-- direct_speed_max (R149). -/
def State.directSpeedMax (s : State) : Int := s.item 7 12

/-- Entry to DIRECT (R149). -/
def enterDirect (s : State) : State :=
  startFrameClock (releaseHolds (zeroDirect (startSceneTimer
    { s with mode := .direct, trackPending := false, sceneSeen := false, trackSeen := false, trackTimer := none })))

/-- Entry to SAFE (R152). -/
def enterSafe (s : State) : State :=
  clearTable
    { s with mode := .safe, trackPending := false, sceneSeen := false, trackSeen := false, sceneTimer := none,
             trackTimer := none }

/-- Entry to ACTIVE from SAFE (R153). -/
def recover (s : State) : State :=
  startTrackTimer (startSceneTimer
    { s with mode := .active, trackPending := false, sceneSeen := false, trackSeen := false })

/-- An acceptance in SAFE that leaves both seen flags set makes the device enter ACTIVE (R153). -/
def recoverIfSeen (s : State) : State := if s.sceneSeen && s.trackSeen then recover s else s

/-! ## Teardown (R154) and the end of DIRECT (R155) -/

/-- Teardown: every block that holds lamp-side or composition state returns to rest (R154 and the table under R152). The
scene record, the fault list, the counters, the tables and the inbound queue are kept. -/
def teardown (s : State) : State :=
  { s with
    mode := .standby, trackPending := false, sceneSeen := false, trackSeen := false, sceneTimer := none, trackTimer := none,
    slots := freeSlots, shaper := Shaper.rest, composition := none, framePhase := none,
    left := HeadState.rest, right := HeadState.rest,
    grant := .none, grantStart := none, progress := 0, exchange := none, passThrough := none, nodes := restNodes }

/-- A DIRECT stay ends by teardown with DIRECT_ABORTED latched, and an outstanding NODE PASS is answered WRONG_STATE
(R127, R155; the fault before the reply, log 9). -/
def abortDirect (s : State) : State := answerHeld .wrongState [] (latch .directAborted 0 (teardown s))

/-! ## What the acceptance of a SCENE or a TRACK does to the modes -/

/-- The speed is above direct_speed_max + 20 (R155). -/
def State.tooFast (s : State) : Bool := decide (s.directSpeedMax + 20 < (s.scene.speed : Int))

/-- A SCENE has been accepted (R68, R147, R153, R155). -/
def afterSceneAccepted (s : State) : State :=
  match s.mode with
  | .start => s
  | .standby => s
  | .active => startSceneTimer s
  | .safe => recoverIfSeen { s with sceneSeen := true }
  | .direct => if s.tooFast then abortDirect s else startSceneTimer s

/-- A TRACK has been accepted (R22, R147, R150, R153). -/
def afterTrackAccepted (s : State) : State :=
  match s.mode with
  | .active => startTrackTimer { s with trackPending := false }
  | .safe => recoverIfSeen { s with trackSeen := true }
  | .start => s
  | .standby => s
  | .direct => s

/-! ## Expiries (R151, R155) -/

/-- What the expiry of the scene timer does in each mode. The timer does not run in START, STANDBY and SAFE (R147); there it
only stops. -/
def sceneTimerExpired (s : State) : State :=
  match s.mode with
  | .active => enterSafe (latch .sceneLost 0 s)
  | .direct => abortDirect s
  | .start => { s with sceneTimer := none }
  | .standby => { s with sceneTimer := none }
  | .safe => { s with sceneTimer := none }

/-- What the expiry of the track timer does in each mode. The timer runs in ACTIVE alone (R147); elsewhere it only stops. -/
def trackTimerExpired (s : State) : State :=
  match s.mode with
  | .active => enterSafe (latch .trackLost 0 s)
  | .direct => { s with trackTimer := none }
  | .start => { s with trackTimer := none }
  | .standby => { s with trackTimer := none }
  | .safe => { s with trackTimer := none }

end Sys2Proof.Machine
end

