-- ==== Sys2Proof/Machine/Calibration.lean ====
section
/-! DEFINITION. The Calibration Store (chapter 10): the image, the autoload, and the configuration requests. -/

namespace Sys2Proof.Machine

/-! ## The EEPROM image (R176) -/

/-- The offset of a group in the image (R176). -/
def groupOffset (g : Nat) : Nat := [2, 17, 34, 55, 100, 205, 310, 415].getD g 0

/-- The guard pair of a group: group 0 in the two most significant bits of the guard word (R176). -/
def guardPair (image : List Byte) (g : Nat) : Nat := unsignedAt image 0 / 4 ^ (7 - g) % 4

/-- The item bytes of a group (R176). -/
def groupItemBytes (image : List Byte) (g : Nat) : List Byte :=
  (image.drop (groupOffset g)).take (2 * (tableSpec g).length)

/-- The CRC-8 byte behind the items of a group (R176). -/
def groupCrc (image : List Byte) (g : Nat) : Byte := byteAt image (groupOffset g + 2 * (tableSpec g).length)

/-- A 16-bit word as the value of an item: two's complement for the head offsets, unsigned otherwise (R175). -/
def itemValue (table index : Nat) (hi lo : Byte) : Int :=
  if itemSigned table index then signed16 hi lo else (unsigned16 hi lo : Int)

/-- The values of a group in the image (R176). -/
def groupValues (image : List Byte) (g : Nat) : List Int :=
  (List.range (tableSpec g).length).map fun i =>
    itemValue g i (byteAt image (groupOffset g + 2 * i)) (byteAt image (groupOffset g + 2 * i + 1))

/-- A group with guard 01 is loaded when its CRC-8 matches and every item lies in its range (R178). -/
def groupSound (image : List Byte) (g : Nat) : Bool :=
  crc8 (groupItemBytes image g) == groupCrc image g && valuesAdmitted (tableSpec g) (groupValues image g)

/-- One group is judged: loaded whole, left at its defaults, or left there with CAL_GROUP_DEFAULTED latched (R178). -/
def judgeGroup (image : List Byte) (s : State) (g : Nat) : State :=
  if guardPair image g ≠ 1 then s
  else if groupSound image g then { s with tables := s.tables.set g (groupValues image g) }
  else latch .calGroupDefaulted g s

/-! ## Autoload (R177) -/

/-- The autoload completes, and the device passes from START to STANDBY without a teardown (R142). -/
def completeAutoload (s : State) : State := { s with autoload := none, mode := .standby }

/-- The read ends without the image: CAL_ABSENT is latched, every table is at its defaults, and the autoload completes
(R177). -/
def failAutoload (s : State) : State :=
  completeAutoload (latch .calAbsent 0 { s with holdingBuffer := [], tables := defaultTables })

/-- The microsecond at which the time base reaches 500 ms (R177). -/
def autoloadLimit : Nat := 500000

/-- The whole image has been read: the groups are judged in ascending order (R177, R178). -/
def loadImage (image : List Byte) (s : State) : State :=
  let held := { s with holdingBuffer := image }
  completeAutoload ((List.range 8).foldl (judgeGroup held.holdingBuffer) held)

/-- The image read ends with an image. A read that has not completed by 500 ms has failed, so that an image after that is
none (R177). -/
def finishAutoload (image : List Byte) (s : State) : State :=
  match s.autoload with
  | none => s
  | some read =>
    if autoloadLimit < s.micros then failAutoload s
    else if image.length = read.length then loadImage image s
    else s

/-- The EEPROM fails to acknowledge during the read (R177). -/
def missAcknowledge (s : State) : State :=
  match s.autoload with
  | none => s
  | some _ => failAutoload s

/-! ## Configuration requests -/

/-- The number of items of a table (R175). -/
def itemCount (table : Nat) : Nat := (tableSpec table).length

/-- Write one item of a table. -/
def setItem (table index : Nat) (value : Int) (s : State) : State :=
  { s with tables := s.tables.modify table fun items => items.set index value }

/-- The value lies in the range of item `index` of a table (R175). -/
def itemAdmits (table index : Nat) (value : Int) : Bool :=
  match (tableSpec table)[index]? with
  | some item => item.admits value
  | none => false

/-- `n` values are written at successive indices with wrap, up to the first out of range (R179). The result is the number
written and whether every value passed. -/
def writeItems (table : Nat) : Nat → Nat → List Byte → State → State × Nat × Bool
  | 0, _, _, s => (s, 0, true)
  | n + 1, index, bytes, s =>
    let value := itemValue table index (byteAt bytes 0) (byteAt bytes 1)
    if itemAdmits table index value then
      let rest := writeItems table n ((index + 1) % itemCount table) (bytes.drop 2) (setItem table index value s)
      (rest.1, rest.2.1 + 1, rest.2.2)
    else (s, 0, false)

/-- `n` values from successive indices with wrap, two bytes each (R180). -/
def readItems (s : State) (table : Nat) : Nat → Nat → List Byte
  | 0, _ => []
  | n + 1, index => bytesOfInt16 (s.item table index) ++ readItems s table n ((index + 1) % itemCount table)

/-- No such table, or a start index not below its item count (R179, R180). -/
def badItemPlace (table index : Nat) : Bool := decide (7 < table) || decide (itemCount table ≤ index)

end Sys2Proof.Machine
end

