-- ==== Sys2Proof/Machine/Requests.lean ====
section
/-! DEFINITION. The Request Handler (chapter 9): what each request does when it is taken, and its reply. -/

namespace Sys2Proof.Machine

/-- The modes in which target and lamp data are processed. -/
def Mode.composes : Mode → Bool
  | .active => true
  | .safe => true
  | .start => false
  | .standby => false
  | .direct => false

/-! ## SCENE (R68 to R70, R169) -/

/-- A SCENE of seven bytes taken outside START. -/
def acceptScene (f : LinkFrame) (s : State) : State :=
  let r := takeScene f.payload s.timeBase s.scene
  answer f (Status.ofClamp r.2) [] (afterSceneAccepted { s with scene := r.1 })

def serveScene (f : LinkFrame) (s : State) : State :=
  if f.payload.length ≠ 7 then answer f .badLength [] s
  else if s.mode = .start then answer f .wrongState [] s
  else acceptScene f s

/-! ## TRACK (R22 to R36, R170) -/

/-- The exposure cab pitch of a TRACK before its clamp (R23). -/
def trackCabPitch (payload : List Byte) : Int := signedAt payload 1

/-- The observation count of a TRACK (R23). -/
def trackCount (payload : List Byte) : Nat := (byteAt payload 3).toNat

/-- What the observations of a TRACK share: receipt time minus image_age, and the cab pitch clamped (R23). -/
def trackExposure (f : LinkFrame) : Exposure :=
  { obsTime := f.receipt - millis (byteAt f.payload 0).toNat, cabPitch := clampTo (-160) 160 (trackCabPitch f.payload) }

/-- The exposure cab pitch is clamped (R23). -/
def cabPitchClamped (payload : List Byte) : Bool :=
  decide (trackCabPitch payload < -160) || decide (160 < trackCabPitch payload)

/-- A TRACK that passes its checks: the acceptance is recorded, and the observations are applied in their order (R22 to
R36). -/
def acceptTrack (f : LinkFrame) (s : State) : State :=
  let accepted := afterTrackAccepted { s with lastTrackTime := s.timeBase, trackAccepted := true }
  let r := observeAll (trackExposure f) (parseObservations (trackCount f.payload) (f.payload.drop 4)) accepted
  answer f (Status.ofClamp (cabPitchClamped f.payload || r.2.2)) r.2.1 r.1

def serveTrack (f : LinkFrame) (s : State) : State :=
  if f.payload.length < 4 ∨ f.payload.length ≠ 4 + 17 * trackCount f.payload then answer f .badLength [] s
  else if s.mode.composes = false then answer f .wrongState [] s
  else if 12 < trackCount f.payload then answer f .badField [] s
  else acceptTrack f s

/-! ## DROP (R37, R169) -/

def serveDrop (f : LinkFrame) (s : State) : State :=
  if f.payload.length ≠ 1 then answer f .badLength [] s
  else if s.mode.composes = false then answer f .wrongState [] s
  else
    let r := dropEntries (byteAt f.payload 0).toNat s
    answer f .ok [byteOf r.2] r.1

/-! ## MODE (R145 to R149, R169) -/

/-- MODE STANDBY outside START (R145). -/
def modeToStandby (f : LinkFrame) (s : State) : State :=
  match s.mode with
  | .standby => answer f .ok [] s
  | .active => answer f .ok [] (teardown s)
  | .safe => answer f .ok [] (teardown s)
  | .direct => answer f .ok [] (teardown s)
  | .start => answer f .wrongState [] s

/-- The reply CONFIG_INCONSISTENT names the failing condition (R146, R169). -/
def answerInconsistent (f : LinkFrame) (c : Condition) (s : State) : State :=
  answer f .configInconsistent [byteOf c.table, byteOf c.item] s

/-- MODE ACTIVATE in STANDBY (R148). -/
def activate (f : LinkFrame) (s : State) : State :=
  match s.firstFailure with
  | some c => answerInconsistent f c s
  | none => answer f .ok [] (enterActive s)

/-- MODE ACTIVATE outside START (R145). -/
def modeToActive (f : LinkFrame) (s : State) : State :=
  match s.mode with
  | .standby => activate f s
  | .active => answer f .ok [] s
  | .safe => answer f .wrongState [] s
  | .direct => answer f .wrongState [] s
  | .start => answer f .wrongState [] s

/-- MODE DIRECT in STANDBY: the check, then the stored speed (R149). -/
def directIfSlow (f : LinkFrame) (s : State) : State :=
  match s.firstFailure with
  | some c => answerInconsistent f c s
  | none =>
    if s.scene.speedKnown = false ∨ s.directSpeedMax < (s.scene.speed : Int) then answer f .wrongState [] s
    else answer f .ok [] (enterDirect s)

/-- MODE DIRECT outside START (R145). -/
def modeToDirect (f : LinkFrame) (s : State) : State :=
  match s.mode with
  | .standby => directIfSlow f s
  | .direct => answer f .ok [] s
  | .active => answer f .wrongState [] s
  | .safe => answer f .wrongState [] s
  | .start => answer f .wrongState [] s

def serveMode (f : LinkFrame) (s : State) : State :=
  if f.payload.length ≠ 1 then answer f .badLength [] s
  else if s.mode = .start then answer f .wrongState [] s
  else
    match (byteAt f.payload 0).toNat with
    | 0 => modeToStandby f s
    | 1 => modeToActive f s
    | 2 => modeToDirect f s
    | _ => answer f .badField [] s

/-! ## QUERY (R171) -/

/-- The payload length of each kind (R171). -/
def queryLength (kind : Nat) : Nat :=
  match kind with
  | 2 => 2
  | 4 => 3
  | _ => 1

/-- QUERY SHADOWS (R66). -/
def queryShadows (f : LinkFrame) (s : State) : State :=
  match headOfByte (byteAt f.payload 1) with
  | none => answer f .badField [] s
  | some h =>
    let list := (s.head h).shadows
    answer f .ok (2 :: headByte h :: byteOf list.length :: list.flatMap Window.bytes) s

/-- QUERY LEVELS (R95). -/
def queryLevels (f : LinkFrame) (s : State) : State :=
  match headOfByte (byteAt f.payload 1) with
  | none => answer f .badField [] s
  | some h =>
    if 11 < (byteAt f.payload 2).toNat then answer f .badField [] s
    else
      answer f .ok (4 :: headByte h :: byteAt f.payload 2 ::
        (groupLevels (s.head h).applied (byteAt f.payload 2).toNat).flatMap bytesOfNat16) s

/-- QUERY FAULTS: the reply is built, then the list is emptied (R182). -/
def queryFaults (f : LinkFrame) (s : State) : State :=
  emptyFaults (answer f .ok
    (5 :: byteOf s.faults.length :: byteOf s.faultOverflow.toNat :: s.faults.flatMap FaultRecord.bytes) s)

/-- QUERY COUNTERS: the reply is built, then the counters are cleared (R184). -/
def queryCounters (f : LinkFrame) (s : State) : State :=
  clearCounters (answer f .ok
    (6 :: (s.counters.flatMap (fun c => bytesOfNat16 c.count) ++ bytesOfNat16 (overflowField s.counters))) s)

/-- A query of a known kind and fitting length. -/
def answerQuery (f : LinkFrame) (kind : Nat) (s : State) : State :=
  match kind with
  | 0 => answer f .ok (0 :: summaryReport s) s
  | 1 => answer f .ok (1 :: byteOf s.occupancy :: targetsReport s) s
  | 2 => queryShadows f s
  | 3 => answer f .ok (3 :: nodesReport s) s
  | 4 => queryLevels f s
  | 5 => queryFaults f s
  | _ => queryCounters f s

def serveQuery (f : LinkFrame) (s : State) : State :=
  match f.payload with
  | [] => answer f .badLength [] s
  | kind :: _ =>
    if 6 < kind.toNat then answer f .badField [] s
    else if f.payload.length ≠ queryLength kind.toNat then answer f .badLength [] s
    else answerQuery f kind.toNat s

/-! ## CONFIG WRITE and CONFIG READ (R173, R179, R180) -/

def serveConfigWrite (f : LinkFrame) (s : State) : State :=
  let table := (byteAt f.payload 0).toNat
  let index := (byteAt f.payload 1).toNat
  if f.payload.length < 4 ∨ 130 < f.payload.length ∨ f.payload.length % 2 = 1 then answer f .badLength [] s
  else if s.mode ≠ .standby then answer f .wrongState [] s
  else if badItemPlace table index then answer f .badField [byteOf 0] s
  else
    let r := writeItems table ((f.payload.length - 2) / 2) index (f.payload.drop 2) s
    answer f (if r.2.2 then .ok else .badField) [byteOf r.2.1] r.1

def serveConfigRead (f : LinkFrame) (s : State) : State :=
  let table := (byteAt f.payload 0).toNat
  let index := (byteAt f.payload 1).toNat
  let count := (byteAt f.payload 2).toNat
  if f.payload.length ≠ 3 then answer f .badLength [] s
  else if s.mode = .start then answer f .wrongState [] s
  else if count = 0 ∨ 64 < count ∨ badItemPlace table index then answer f .badField [] s
  else answer f .ok (byteOf table :: byteOf index :: byteOf count :: readItems s table count index) s

/-! ## DIRECT LEVELS (R99, R169) -/

/-- The sixteen levels of a DIRECT LEVELS request before their clamp. -/
def directValues (payload : List Byte) : List Nat := unsignedValues 16 2 payload

/-- Sixteen levels replace those of a group in a head's direct frame, each at most 1023 (R99). -/
def writeDirect (h : Head) (g : Nat) (values : List Nat) (s : State) : State :=
  s.setHead h { s.head h with direct := writeGroup (s.head h).direct g (values.map (min 1023)) }

def serveDirectLevels (f : LinkFrame) (s : State) : State :=
  if f.payload.length ≠ 34 then answer f .badLength [] s
  else if s.mode ≠ .direct then answer f .wrongState [] s
  else
    match headOfByte (byteAt f.payload 0) with
    | none => answer f .badField [] s
    | some h =>
      if 11 < (byteAt f.payload 1).toNat then answer f .badField [] s
      else
        answer f (Status.ofClamp ((directValues f.payload).any fun v => decide (1023 < v))) []
          (writeDirect h (byteAt f.payload 1).toNat (directValues f.payload) s)

/-! ## NODE PASS (R125, R173) -/

/-- An accepted NODE PASS: the Request Handler holds it, and it is handed to the Link Sequencer as the waiting
pass-through (R125, R163). -/
def holdPass (f : LinkFrame) (s : State) : State :=
  requestArrived
    { s with
      handler := .serving f
      passThrough := some { node := (byteAt f.payload 0).toNat, bytes := f.payload.drop 1, inFlight := false } }

def serveNodePass (f : LinkFrame) (s : State) : State :=
  if f.payload.length < 2 ∨ 21 < f.payload.length then answer f .badLength [] s
  else if s.mode ≠ .direct then answer f .wrongState [] s
  else if (s.routeOf (byteAt f.payload 0).toNat).isNone then answer f .noRoute [] s
  else holdPass f s

/-! ## Taking a request (R163, R164) -/

/-- A taken request is carried out by its type (R164). -/
def serve (f : LinkFrame) (s : State) : State :=
  match f.type.toNat with
  | 1 => serveScene f s
  | 2 => serveTrack f s
  | 3 => serveDrop f s
  | 4 => serveMode f s
  | 5 => serveQuery f s
  | 6 => serveConfigWrite f s
  | 7 => serveConfigRead f s
  | 8 => serveDirectLevels f s
  | 9 => serveNodePass f s
  | _ => answer f .unknownType [] s

/-- An IDLE Request Handler takes the oldest frame of the queue at once (R163). -/
def takeNext (s : State) : State :=
  match s.handler with
  | .serving _ => s
  | .transmitting => s
  | .idle =>
    match s.inbound with
    | [] => s
    | f :: rest => serve f { s with inbound := rest }

/-- A good frame is offered to the inbound queue (R161, R162). -/
def offerFrame (f : LinkFrame) (s : State) : State :=
  if s.inbound.length < 4 then takeNext { s with inbound := s.inbound ++ [f] }
  else countEvent .queueFullDrops s

/-- A request row (log 5): a good frame of this type, tag and payload is offered to the inbound queue, received now. -/
def request (type tag : Byte) (payload : List Byte) (s : State) : State :=
  offerFrame { type, tag, payload, receipt := s.timeBase } s

/-! ## The end of a reply (R163, R166) -/

/-- The moment at which the reply has left the line (R166). -/
def Reply.endsAt (r : Reply) : Nat := r.startedAt + r.duration

/-- The reply has left the line: its buffer is free, the Request Handler is IDLE and takes the next frame (R163, R166). -/
def finishReply (s : State) : State := takeNext { s with replyBuffer := none, handler := .idle }

end Sys2Proof.Machine
end

