-- ==== Sys2Proof/Machine/Link.lean ====
section
/-! DEFINITION. The framer of the Vehicle Link Port (chapter 9). -/

namespace Sys2Proof.Machine

/-- The framer is inside a frame (R159, R160). -/
def FramerState.inFrame : FramerState → Bool
  | .hunt => false
  | .pair => false
  | .header => true
  | .payload => true
  | .crc => true

/-- The frame is abandoned (R160). -/
def abandonFrame (s : State) : State := countEvent .linkFramesAbandoned { s with framer := .hunt, rxBytes := [] }

/-- The payload length of the frame being received: its third byte. -/
def State.rxLength (s : State) : Nat := (byteAt s.rxBytes 2).toNat

/-- The framer takes a byte into the frame and goes to a state. -/
def keepByte (b : Byte) (next : FramerState) (s : State) : State :=
  { s with framer := next, rxBytes := s.rxBytes ++ [b] }

/-- HEADER: type, tag, then the length (R159). -/
def headerByte (b : Byte) (s : State) : State :=
  if s.rxBytes.length < 2 then keepByte b .header s
  else if 240 < b.toNat then abandonFrame s
  else keepByte b (if b = 0 then .crc else .payload) s

/-- PAYLOAD: until length bytes are in (R159). -/
def payloadByte (b : Byte) (s : State) : State :=
  keepByte b (if s.rxBytes.length + 1 < 3 + s.rxLength then .payload else .crc) s

/-- The frame is complete with its second CRC byte `b`: its receipt time is now; it is discarded for its CRC, or offered to
the queue (R161). -/
def completeFrame (b : Byte) (s : State) : State :=
  let covered := s.rxBytes.take (3 + s.rxLength)
  let done := { s with framer := .hunt, rxBytes := [] }
  if crc16 covered = word16 (byteAt s.rxBytes (3 + s.rxLength)) b then
    offerFrame { type := byteAt s.rxBytes 0, tag := byteAt s.rxBytes 1, payload := covered.drop 3, receipt := s.timeBase } done
  else countEvent .linkCrcErrors done

/-- CRC: the first, then the second CRC byte (R159). -/
def crcByte (b : Byte) (s : State) : State :=
  if s.rxBytes.length < 4 + s.rxLength then keepByte b .crc s else completeFrame b s

/-- A byte without a framing error moves the framer (R159). -/
def goodByte (b : Byte) (s : State) : State :=
  match s.framer with
  | .hunt => { s with framer := if b = 0xB4 then .pair else .hunt }
  | .pair =>
    if b = 0x4B then { s with framer := .header, rxBytes := [] }
    else { s with framer := if b = 0xB4 then .pair else .hunt }
  | .header => headerByte b s
  | .payload => payloadByte b s
  | .crc => crcByte b s

/-- A byte with a framing error: inside a frame it abandons the frame, outside it is discarded and leaves HUNT (R157, R159,
R160). -/
def faultyByte (s : State) : State :=
  if s.framer.inFrame then abandonFrame s else { s with framer := .hunt }

/-- A byte arrives on the vehicle link receive wire; silence is measured from now (R160). -/
def receiveLinkByte (b : Byte) (framingError : Bool) (s : State) : State :=
  let silent := { s with rxSilentSince := some s.micros }
  if framingError then faultyByte silent else goodByte b silent

/-- What the vehicle link receive wire brings without a framing error: a start bit ends a silence (R157, R160). -/
def receiveLinkInput (input : LineInput) (s : State) : State :=
  match input with
  | .startBit => { s with rxSilentSince := none }
  | .byte b => receiveLinkByte b false s

end Sys2Proof.Machine
end

