-- ==== Sys2Proof/Machine/Moments.lean ====
section
/-! DEFINITION. The moments of the block's own: when the cause of each occurs, what happens then, and how time passes to one
of them without passing another (logs 1, 2, 3, 11). -/

namespace Sys2Proof.Machine

/-! ## When -/

/-- The end of the block in flight (R109, R115). -/
def blockSentAt (x : Exchange) : Option Nat :=
  match x.phase with
  | .sending => some (blockEnd x)
  | .awaiting _ => none
  | .receiving _ _ _ => none
  | .failed _ _ => none

/-- The end of the wait for the start byte (R115). -/
def startTimeoutAt (echoTimeout : Nat) (x : Exchange) : Option Nat :=
  match x.phase with
  | .sending => none
  | .awaiting endedAt => some (endedAt + echoTimeout)
  | .receiving _ _ _ => none
  | .failed _ _ => none

/-- The end of 20 µs of silence inside an echo, or after one that has failed; none while a byte is coming in (R109, R115,
R116). -/
def echoSilenceAt (x : Exchange) : Option Nat :=
  match x.phase with
  | .sending => none
  | .awaiting _ => none
  | .receiving _ _ silentSince => silentSince.map (· + 20)
  | .failed _ silentSince => silentSince.map (· + 20)

/-- The hard limit of an exchange whose block has been sent (R115). -/
def hardLimitAt (echoTimeout : Nat) (x : Exchange) : Option Nat :=
  match x.phase with
  | .sending => none
  | .awaiting endedAt => some (endedAt + echoTimeout + 750)
  | .receiving endedAt _ _ => some (endedAt + echoTimeout + 750)
  | .failed endedAt _ => some (endedAt + echoTimeout + 750)

/-- The microsecond at which the cause of a command occurs, where that cause is a moment of the block's own: none for a stopped
timer, an empty buffer and the like, and for every command from outside. -/
def causeAt (c : Instr) (s : State) : Option Nat :=
  match c with
  | .autoloadTimeout => s.autoload.map fun _ => autoloadLimit
  | .sceneTimerExpiry => s.sceneTimer.map s.microsAt
  | .trackTimerExpiry => s.trackTimer.map s.microsAt
  | .frameStart => s.framePhase.map s.microsAt
  | .frameSilenceTimeout => if s.framer.inFrame then s.rxSilentSince.map (· + 40) else none
  | .replyTransmitted => s.replyBuffer.map Reply.endsAt
  | .blockSent => s.exchange.bind blockSentAt
  | .echoStartTimeout => s.exchange.bind (startTimeoutAt s.echoTimeout)
  | .echoSilenceTimeout => s.exchange.bind echoSilenceAt
  | .echoHardLimit => s.exchange.bind (hardLimitAt s.echoTimeout)
  | _ => none

/-- The moment of a command: that of its cause, or now if that is past. -/
def momentOf (c : Instr) (s : State) : Option Nat := (causeAt c s).map (max s.micros)

/-- The commands for moments of the block's own (R83, R109, R115, R147, R160, R166, R177). -/
def ownCommands : List Instr :=
  [.autoloadTimeout, .sceneTimerExpiry, .trackTimerExpiry, .frameStart, .frameSilenceTimeout, .replyTransmitted, .blockSent,
   .echoStartTimeout, .echoSilenceTimeout, .echoHardLimit]

/-- The commands whose moment is `m`. -/
def commandsAt (m : Nat) (s : State) : List Instr := ownCommands.filter fun c => decide (momentOf c s = some m)

/-- The first moment of the block's own that does not lie after `t`, or `t`. -/
def firstMoment (t : Nat) (s : State) : Nat := (ownCommands.filterMap fun c => momentOf c s).foldl min t

/-- The commands for the moments that are due now. -/
def dueMoments (s : State) : List Instr := commandsAt s.micros s

/-! ## What happens -/

/-- What happens at the moment of a command, the time being that moment. -/
def happen (c : Instr) (s : State) : State :=
  match c with
  | .autoloadTimeout => failAutoload s
  | .sceneTimerExpiry => sceneTimerExpired s
  | .trackTimerExpiry => trackTimerExpired s
  | .frameStart => frameClock s
  | .frameSilenceTimeout => abandonFrame s
  | .replyTransmitted => finishReply s
  | .blockSent => finishBlock s
  | .echoStartTimeout => failExchange s
  | .echoSilenceTimeout => failExchange s
  | .echoHardLimit => failExchange s
  | _ => s

/-- The one of several moments at one time that is taken first: with more than one, the free value names it, and the tie is
counted (log 2). -/
def takeFirst (cs : List Instr) (s : State) : Option (Instr × State) :=
  match cs with
  | [] => none
  | [c] => some (c, s)
  | c :: d :: rest =>
    some ((c :: d :: rest).getD (Config.tieOrder s.ties % (c :: d :: rest).length) c, { s with ties := s.ties + 1 })

/-- Time passes to the moment of a command, which happens there. Every moment before it is taken at its own time on the way;
if that leaves the command without a cause, time stops there (log 3). At most `n` moments are taken. -/
def runTo : Nat → Instr → State → State
  | 0, _, s => s
  | n + 1, c, s =>
    match momentOf c s with
    | none => s
    | some t =>
      if firstMoment t s = t then happen c (passTo t s)
      else
        match takeFirst (commandsAt (firstMoment t s) s) s with
        | none => s
        | some (d, u) => runTo n c (happen d (passTo (firstMoment t s) u))

/-- More moments than lie before any moment of a running block (log 20). -/
def courseLimit : Nat := 65536

end Sys2Proof.Machine
end

