-- ==== Sys2Proof/Machine/Events.lean ====
section
/-! DEFINITION. The meaning of each command that is an event outside the request types: reset, autoload, link, timers, frame
path and lamp ports. A command for a moment of the block's own carries time to that moment (log 3). -/

namespace Sys2Proof.Machine

/-- A meaning that always completes. -/
abbrev Result := Host.Outcome State Fault Refusal

/-- RESET (R142, R166, R128): every block returns to its reset state, TRAFFIC_SIDE is sampled when reset ends (R5), the time
base starts from 0 (R21) and the autoload begins anew (R177). The waiting commands are the sender's and stay. -/
def execReset (trafficSideHigh : Bool) (s : State) : Result :=
  .next { State.reset with trafficSideHigh, pending := s.pending, ties := s.ties }

/-- AUTOLOAD_READ_COMPLETE (R177, R178); nothing if no read is in flight or the image is not whole (logs 7, 13). -/
def execAutoloadReadComplete (image : List Byte) (s : State) : Result := .next (finishAutoload image s)

/-- EEPROM_NO_ACKNOWLEDGE (R177); nothing if no read is in flight. -/
def execEepromNoAcknowledge (s : State) : Result := .next (missAcknowledge s)

/-- AUTOLOAD_TIMEOUT (R177): time passes to 500 ms; nothing if no read is in flight. -/
def execAutoloadTimeout (s : State) : Result := .next (runTo courseLimit .autoloadTimeout s)

/-- FRAME_RECEIVED (R161): the byte that arrives is the second CRC byte if the framer awaits it (log 6). -/
def execFrameReceived (b : Byte) (s : State) : Result := .next (receiveLinkByte b false s)

/-- FRAME_ABANDONED (R160): a length byte above 240, or a byte with a framing error (log 6). -/
def execFrameAbandoned (b : Byte) (framingError : Bool) (s : State) : Result := .next (receiveLinkByte b framingError s)

/-- FRAME_SILENCE_TIMEOUT (R160); nothing outside a frame. -/
def execFrameSilenceTimeout (s : State) : Result := .next (runTo courseLimit .frameSilenceTimeout s)

/-- LINK_BYTE_RECEIVED (R159). -/
def execLinkByteReceived (input : LineInput) (s : State) : Result := .next (receiveLinkInput input s)

/-- REPLY_TRANSMITTED (R163, R166); nothing if no reply is being transmitted. -/
def execReplyTransmitted (s : State) : Result := .next (runTo courseLimit .replyTransmitted s)

/-- SCENE_TIMER_EXPIRY (R147, R151, R155); nothing if the timer is stopped. -/
def execSceneTimerExpiry (s : State) : Result := .next (runTo courseLimit .sceneTimerExpiry s)

/-- TRACK_TIMER_EXPIRY (R147, R151); nothing if the timer is stopped. -/
def execTrackTimerExpiry (s : State) : Result := .next (runTo courseLimit .trackTimerExpiry s)

/-- FRAME_START (R83, R84, R100); nothing if the clock is stopped. -/
def execFrameStart (s : State) : Result := .next (runTo courseLimit .frameStart s)

/-- HEAD_STAGE_COMPLETE (R86, R94); nothing if no composition is in flight. -/
def execHeadStageComplete (s : State) : Result := .next (finishHeadStage s)

/-- BLOCK_SENT (R115); nothing if no block is being sent. -/
def execBlockSent (s : State) : Result := .next (runTo courseLimit .blockSent s)

/-- ECHO_RECEIVED (R116): the byte that arrives is the last of an echo if the exchange awaits it (log 6). -/
def execEchoReceived (port : Head) (b : Byte) (s : State) : Result := .next (receiveEchoByte port b false s)

/-- ECHO_BYTE_RECEIVED (R114, R115, R116). -/
def execEchoByteReceived (port : Head) (input : LineInput) (stopLow : Bool) (s : State) : Result :=
  .next (receiveEchoInput port input stopLow s)

/-- ECHO_START_TIMEOUT (R115); nothing unless a start byte is awaited. -/
def execEchoStartTimeout (s : State) : Result := .next (runTo courseLimit .echoStartTimeout s)

/-- ECHO_SILENCE_TIMEOUT (R115, R116); nothing unless an echo has begun. -/
def execEchoSilenceTimeout (s : State) : Result := .next (runTo courseLimit .echoSilenceTimeout s)

/-- ECHO_HARD_LIMIT (R115); nothing unless the block of an exchange has been sent. -/
def execEchoHardLimit (s : State) : Result := .next (runTo courseLimit .echoHardLimit s)

end Sys2Proof.Machine
end

