-- ==== Sys2Proof/Machine/Messages.lean ====
section
/-! DEFINITION. The meaning of each command that is a request: a good frame offered to the inbound queue, taken at once by an
IDLE Request Handler (R161 to R164, log 5). -/

namespace Sys2Proof.Machine

/-- UNKNOWN_TYPE (R164). -/
def execUnknownType (type tag : Byte) (payload : List Byte) (s : State) : Result := .next (request type tag payload s)

/-- SCENE (R68, R169). -/
def execScene (tag : Byte) (payload : List Byte) (s : State) : Result := .next (request 1 tag payload s)

/-- TRACK (R22, R170). -/
def execTrack (tag : Byte) (payload : List Byte) (s : State) : Result := .next (request 2 tag payload s)

/-- DROP (R37, R169). -/
def execDrop (tag : Byte) (payload : List Byte) (s : State) : Result := .next (request 3 tag payload s)

/-- MODE with target STANDBY (R145, R154). -/
def execModeStandby (tag : Byte) (s : State) : Result := .next (request 4 tag [0] s)

/-- MODE with target ACTIVATE (R145, R148). -/
def execModeActivate (tag : Byte) (s : State) : Result := .next (request 4 tag [1] s)

/-- MODE with target DIRECT (R145, R149). -/
def execModeDirect (tag : Byte) (s : State) : Result := .next (request 4 tag [2] s)

/-- MODE that names no target (R145). -/
def execModeNoTarget (tag : Byte) (payload : List Byte) (s : State) : Result := .next (request 4 tag payload s)

/-- QUERY SUMMARY (R82, R171). -/
def execQuerySummary (tag : Byte) (parameters : List Byte) (s : State) : Result := .next (request 5 tag (0 :: parameters) s)

/-- QUERY TARGETS (R44, R171). -/
def execQueryTargets (tag : Byte) (parameters : List Byte) (s : State) : Result := .next (request 5 tag (1 :: parameters) s)

/-- QUERY SHADOWS (R66, R171). -/
def execQueryShadows (tag : Byte) (parameters : List Byte) (s : State) : Result := .next (request 5 tag (2 :: parameters) s)

/-- QUERY NODES (R140, R171). -/
def execQueryNodes (tag : Byte) (parameters : List Byte) (s : State) : Result := .next (request 5 tag (3 :: parameters) s)

/-- QUERY LEVELS (R95, R171). -/
def execQueryLevels (tag : Byte) (parameters : List Byte) (s : State) : Result := .next (request 5 tag (4 :: parameters) s)

/-- QUERY FAULTS (R171, R182). -/
def execQueryFaults (tag : Byte) (parameters : List Byte) (s : State) : Result := .next (request 5 tag (5 :: parameters) s)

/-- QUERY COUNTERS (R171, R184). -/
def execQueryCounters (tag : Byte) (parameters : List Byte) (s : State) : Result := .next (request 5 tag (6 :: parameters) s)

/-- QUERY that names no kind (R171). -/
def execQueryNoKind (tag : Byte) (payload : List Byte) (s : State) : Result := .next (request 5 tag payload s)

/-- CONFIG WRITE (R173, R179). -/
def execConfigWrite (tag : Byte) (payload : List Byte) (s : State) : Result := .next (request 6 tag payload s)

/-- CONFIG READ (R173, R180). -/
def execConfigRead (tag : Byte) (payload : List Byte) (s : State) : Result := .next (request 7 tag payload s)

/-- DIRECT LEVELS (R99, R169). -/
def execDirectLevels (tag : Byte) (payload : List Byte) (s : State) : Result := .next (request 8 tag payload s)

/-- NODE PASS (R125, R173). -/
def execNodePass (tag : Byte) (payload : List Byte) (s : State) : Result := .next (request 9 tag payload s)

end Sys2Proof.Machine
end

