-- ==== Sys2Proof/Machine/Dispatch.lean ====
section
/-! DEFINITION. One arm per command. -/

namespace Sys2Proof.Machine

def exec (i : Instr) (s : State) : Host.Outcome State Fault Refusal :=
  match i with
  | .reset trafficSideHigh => Sys2Proof.Machine.execReset trafficSideHigh s
  | .autoloadReadComplete image => Sys2Proof.Machine.execAutoloadReadComplete image s
  | .eepromNoAcknowledge => Sys2Proof.Machine.execEepromNoAcknowledge s
  | .autoloadTimeout => Sys2Proof.Machine.execAutoloadTimeout s
  | .frameReceived b => Sys2Proof.Machine.execFrameReceived b s
  | .frameAbandoned b framingError => Sys2Proof.Machine.execFrameAbandoned b framingError s
  | .frameSilenceTimeout => Sys2Proof.Machine.execFrameSilenceTimeout s
  | .replyTransmitted => Sys2Proof.Machine.execReplyTransmitted s
  | .unknownType type tag payload => Sys2Proof.Machine.execUnknownType type tag payload s
  | .scene tag payload => Sys2Proof.Machine.execScene tag payload s
  | .track tag payload => Sys2Proof.Machine.execTrack tag payload s
  | .drop tag payload => Sys2Proof.Machine.execDrop tag payload s
  | .modeStandby tag => Sys2Proof.Machine.execModeStandby tag s
  | .modeActivate tag => Sys2Proof.Machine.execModeActivate tag s
  | .modeDirect tag => Sys2Proof.Machine.execModeDirect tag s
  | .querySummary tag parameters => Sys2Proof.Machine.execQuerySummary tag parameters s
  | .queryTargets tag parameters => Sys2Proof.Machine.execQueryTargets tag parameters s
  | .queryShadows tag parameters => Sys2Proof.Machine.execQueryShadows tag parameters s
  | .queryNodes tag parameters => Sys2Proof.Machine.execQueryNodes tag parameters s
  | .queryLevels tag parameters => Sys2Proof.Machine.execQueryLevels tag parameters s
  | .queryFaults tag parameters => Sys2Proof.Machine.execQueryFaults tag parameters s
  | .queryCounters tag parameters => Sys2Proof.Machine.execQueryCounters tag parameters s
  | .configWrite tag payload => Sys2Proof.Machine.execConfigWrite tag payload s
  | .configRead tag payload => Sys2Proof.Machine.execConfigRead tag payload s
  | .directLevels tag payload => Sys2Proof.Machine.execDirectLevels tag payload s
  | .nodePass tag payload => Sys2Proof.Machine.execNodePass tag payload s
  | .sceneTimerExpiry => Sys2Proof.Machine.execSceneTimerExpiry s
  | .trackTimerExpiry => Sys2Proof.Machine.execTrackTimerExpiry s
  | .frameStart => Sys2Proof.Machine.execFrameStart s
  | .headStageComplete => Sys2Proof.Machine.execHeadStageComplete s
  | .blockSent => Sys2Proof.Machine.execBlockSent s
  | .echoReceived port b => Sys2Proof.Machine.execEchoReceived port b s
  | .echoStartTimeout => Sys2Proof.Machine.execEchoStartTimeout s
  | .echoSilenceTimeout => Sys2Proof.Machine.execEchoSilenceTimeout s
  | .echoHardLimit => Sys2Proof.Machine.execEchoHardLimit s
  | .linkByteReceived input => Sys2Proof.Machine.execLinkByteReceived input s
  | .echoByteReceived port input stopLow => Sys2Proof.Machine.execEchoByteReceived port input stopLow s
  | .queryNoKind tag payload => Sys2Proof.Machine.execQueryNoKind tag payload s
  | .modeNoTarget tag payload => Sys2Proof.Machine.execModeNoTarget tag payload s

end Sys2Proof.Machine
end

