-- ==== Sys2Proof/Machine/Clock.lean ====
section
/-! DEFINITION. What the block does while no command is waiting: time passes, and never past a due moment of its own
(log 1). -/

namespace Sys2Proof.Machine

/-- A microsecond passes. -/
def tick (s : State) : State := { s with micros := s.micros + 1 }

/-- What the block does with no command waiting (log 1): a microsecond passes if no moment is due; the one due moment is
taken; of several, the free value names the one taken (log 2). -/
def idle (s : State) : Host.Outcome State Fault Refusal :=
  match takeFirst (dueMoments s) s with
  | none => .next (tick s)
  | some (c, u) => exec c u

end Sys2Proof.Machine
end

