-- ==== Sys2Proof/WellFormed.lean ====
section
/-! DEFINITION. Which terms of `Instr` are commands that the block can meet: the operands fit the frame format (R158), the
image has its length (R176), and a row that is told from its neighbours by its bytes has the bytes that tell it. -/

namespace Sys2Proof

/-- The payload of a link frame has 0..240 bytes (R158). -/
def payloadFits (payload : List Byte) : Bool := payload.length ≤ 240

/-- The parameters of a QUERY stand behind its kind byte, so that the payload is one byte longer (R158, R171). -/
def parametersFit (parameters : List Byte) : Bool := parameters.length ≤ 239

/-- The check of a command's operands. -/
def Instr.wellFormed : Instr → Bool
  | .reset _ => true
  | .autoloadReadComplete image => image.length = 442
  | .eepromNoAcknowledge => true
  | .autoloadTimeout => true
  | .frameReceived _ => true
  | .frameAbandoned b framingError => framingError || decide (240 < b.toNat)
  | .frameSilenceTimeout => true
  | .replyTransmitted => true
  | .unknownType type _ payload => (type.toNat = 0 || decide (9 < type.toNat)) && payloadFits payload
  | .scene _ payload => payloadFits payload
  | .track _ payload => payloadFits payload
  | .drop _ payload => payloadFits payload
  | .modeStandby _ => true
  | .modeActivate _ => true
  | .modeDirect _ => true
  | .querySummary _ parameters => parametersFit parameters
  | .queryTargets _ parameters => parametersFit parameters
  | .queryShadows _ parameters => parametersFit parameters
  | .queryNodes _ parameters => parametersFit parameters
  | .queryLevels _ parameters => parametersFit parameters
  | .queryFaults _ parameters => parametersFit parameters
  | .queryCounters _ parameters => parametersFit parameters
  | .configWrite _ payload => payloadFits payload
  | .configRead _ payload => payloadFits payload
  | .directLevels _ payload => payloadFits payload
  | .nodePass _ payload => payloadFits payload
  | .sceneTimerExpiry => true
  | .trackTimerExpiry => true
  | .frameStart => true
  | .headStageComplete => true
  | .blockSent => true
  | .echoReceived _ _ => true
  | .echoStartTimeout => true
  | .echoSilenceTimeout => true
  | .echoHardLimit => true
  | .linkByteReceived _ => true
  | .echoByteReceived _ .startBit stopLow => !stopLow
  | .echoByteReceived _ (.byte _) _ => true
  | .queryNoKind _ payload =>
    match payload with
    | [] => true
    | kind :: _ => decide (6 < kind.toNat) && payloadFits payload
  | .modeNoTarget _ payload =>
    match payload with
    | [target] => decide (2 < target.toNat)
    | _ => payloadFits payload

end Sys2Proof
end

