-- ==== Sys2Proof/Safety.lean ====
section
/-! DEFINITION. The terms in which claims about the block are stated: when a request is taken at once, what a reply shows,
which requests fit and where they are accepted, and the laws that the spec states of the state. -/

namespace Sys2Proof.Machine

/-! ## Requests and replies -/

/-- A request that arrives is taken at once: the Request Handler is IDLE and the queue is empty (R163). -/
abbrev Ready (s : State) : Prop := s.handler = .idle ∧ s.inbound = []

/-- The reply to a request has been built in a state, with its status and type-specific part, and is being transmitted
(R163, R165). -/
abbrev Replied (type tag : Byte) (status : Status) (part : List Byte) (t : State) : Prop :=
  t.handler = .transmitting ∧
    t.replyBuffer = some { type := type + 0x80, tag, payload := status.code :: (t.summary ++ part), startedAt := t.micros }

/-- The `n` bytes of a bit string, the most significant first (00 "Byte order and layouts"; R172). -/
def bigEndian (n : Nat) (v : BitVec w) : List Byte := (List.range n).map fun k => v.extractLsb' (8 * (n - 1 - k)) 8

/-- Nothing but the reply buffer and the Request Handler differs. -/
abbrev OnlyReplied (s t : State) : Prop := t = { s with replyBuffer := t.replyBuffer, handler := t.handler }

/-- The request frame that a request row stands for: type, tag and payload. -/
def requestOf : Instr → Option (Byte × Byte × List Byte)
  | .unknownType type tag payload => some (type, tag, payload)
  | .scene tag payload => some (1, tag, payload)
  | .track tag payload => some (2, tag, payload)
  | .drop tag payload => some (3, tag, payload)
  | .modeStandby tag => some (4, tag, [0])
  | .modeActivate tag => some (4, tag, [1])
  | .modeDirect tag => some (4, tag, [2])
  | .modeNoTarget tag payload => some (4, tag, payload)
  | .querySummary tag parameters => some (5, tag, 0 :: parameters)
  | .queryTargets tag parameters => some (5, tag, 1 :: parameters)
  | .queryShadows tag parameters => some (5, tag, 2 :: parameters)
  | .queryNodes tag parameters => some (5, tag, 3 :: parameters)
  | .queryLevels tag parameters => some (5, tag, 4 :: parameters)
  | .queryFaults tag parameters => some (5, tag, 5 :: parameters)
  | .queryCounters tag parameters => some (5, tag, 6 :: parameters)
  | .queryNoKind tag payload => some (5, tag, payload)
  | .configWrite tag payload => some (6, tag, payload)
  | .configRead tag payload => some (7, tag, payload)
  | .directLevels tag payload => some (8, tag, payload)
  | .nodePass tag payload => some (9, tag, payload)
  | .reset _ => none
  | .autoloadReadComplete _ => none
  | .eepromNoAcknowledge => none
  | .autoloadTimeout => none
  | .frameReceived _ => none
  | .frameAbandoned _ _ => none
  | .frameSilenceTimeout => none
  | .replyTransmitted => none
  | .sceneTimerExpiry => none
  | .trackTimerExpiry => none
  | .frameStart => none
  | .headStageComplete => none
  | .blockSent => none
  | .echoReceived _ _ => none
  | .echoStartTimeout => none
  | .echoSilenceTimeout => none
  | .echoHardLimit => none
  | .linkByteReceived _ => none
  | .echoByteReceived _ _ _ => none

/-- The fitting payload lengths of the request types (the table of R164, and R171 for QUERY). -/
def lengthFits (type : Byte) (payload : List Byte) : Bool :=
  match type.toNat with
  | 1 => payload.length == 7
  | 2 => decide (4 ≤ payload.length) && payload.length == 4 + 17 * (byteAt payload 3).toNat
  | 3 => payload.length == 1
  | 4 => payload.length == 1
  | 5 =>
    match payload with
    | [] => false
    | kind :: _ =>
      if kind = 2 then payload.length == 2 else if kind = 4 then payload.length == 3
      else if 6 < kind.toNat then true else payload.length == 1
  | 6 => decide (4 ≤ payload.length) && decide (payload.length ≤ 130) && payload.length % 2 == 0
  | 7 => payload.length == 3
  | 8 => payload.length == 34
  | 9 => decide (2 ≤ payload.length) && decide (payload.length ≤ 21)
  | _ => false

/-- A request of a known type is not answered WRONG_STATE for the mode alone (08 "Requests by mode"; MODE by R145, whose own
table decides per target outside START). -/
def acceptedIn (type : Byte) (mode : Mode) : Bool :=
  match type.toNat with
  | 1 => decide (mode ≠ .start)
  | 2 => decide (mode = .active) || decide (mode = .safe)
  | 3 => decide (mode = .active) || decide (mode = .safe)
  | 4 => decide (mode ≠ .start)
  | 5 => true
  | 6 => decide (mode = .standby)
  | 7 => decide (mode ≠ .start)
  | 8 => decide (mode = .direct)
  | 9 => decide (mode = .direct)
  | _ => false

/-- The request types 0x01..0x09 (R164). -/
abbrev knownType (type : Byte) : Prop := 1 ≤ type.toNat ∧ type.toNat ≤ 9

/-! ## Time -/

/-- No moment of the block's own comes before that of a command. -/
abbrev Undisturbed (c : Instr) (s : State) : Prop :=
  ∀ d t m, momentOf c s = some t → momentOf d s = some m → t ≤ m

/-- The lamp-port times that an exchange has not passed (R109, R115, R116). -/
def ExchangePunctual (s : State) (x : Exchange) : Prop :=
  match x.phase with
  | .sending => s.micros ≤ x.startedAt + x.blockDuration
  | .awaiting endedAt => s.micros ≤ endedAt + s.itemNat 1 3
  | .receiving endedAt _ silentSince =>
    (∀ t, silentSince = some t → s.micros ≤ t + 20) ∧ s.micros ≤ endedAt + s.itemNat 1 3 + 750
  | .failed endedAt silentSince =>
    (∀ t, silentSince = some t → s.micros ≤ t + 20) ∧ s.micros ≤ endedAt + s.itemNat 1 3 + 750

/-- No moment of the block's own has been passed over: a running timer's deadline lies at most its largest timeout ahead, the
frame clock's phase at most the largest frame period; the autoload is in flight only to 500 ms; a silence inside a
frame lasts only to 40 µs; a reply is in its buffer only to its end; and an exchange has passed none of its limits
(R83, R109, R115, R147, R160, R166, R177). -/
abbrev PunctualLaw (s : State) : Prop :=
  (∀ d, s.sceneTimer = some d → (d - s.timeBase).toNat ≤ 1000) ∧
  (∀ d, s.trackTimer = some d → (d - s.timeBase).toNat ≤ 1000) ∧
  (∀ d, s.framePhase = some d → (d - s.timeBase).toNat ≤ 20) ∧
  (s.autoload.isSome = true → s.micros ≤ 500000) ∧
  (s.framer.inFrame = true → ∀ t, s.rxSilentSince = some t → s.micros ≤ t + 40) ∧
  (∀ r, s.replyBuffer = some r → s.micros ≤ r.startedAt + 10 * (r.payload.length + 7)) ∧
  ∀ x, s.exchange = some x → ExchangePunctual s x

/-! ## Laws of the state -/

/-- The ids of the occupied slots, in slot order. -/
def entryIds (slots : List (Option Entry)) : List Nat := slots.filterMap fun slot => slot.map Entry.id

/-- Sixteen slots, and no two entries carry the same id (R18). -/
abbrev TargetTableLaw (s : State) : Prop := s.slots.length = 16 ∧ (entryIds s.slots).Nodup

/-- The fields of an entry lie in their ranges (R19). -/
abbrev Entry.inRange (e : Entry) : Prop :=
  (1 ≤ e.id ∧ e.id ≤ 63) ∧ e.cls ≤ 5 ∧ e.tier ≤ 3 ∧ (-1024 ≤ e.azL ∧ e.azL ≤ e.azR ∧ e.azR ≤ 1023) ∧
    (-2000 ≤ e.rate ∧ e.rate ≤ 2000) ∧ (-416 ≤ e.elevB ∧ e.elevB ≤ e.elevT ∧ e.elevT ≤ 415) ∧ e.range ≤ 8191 ∧
    e.confidence ≤ 15 ∧ (1 ≤ e.hits ∧ e.hits ≤ 15)

/-- Every entry of the table, and of the snapshot of a composition, has its fields in range (R19, R39). -/
abbrev EntryLaw (s : State) : Prop :=
  (∀ e, some e ∈ s.slots → e.inRange) ∧ ∀ c e, s.composition = some c → some e ∈ c.targets → e.inRange

/-- Eight tables, and no item outside its range (R175). -/
abbrev CalibrationLaw (s : State) : Prop :=
  s.tables.length = 8 ∧ ∀ t < 8, valuesAdmitted (tableSpec t) (s.tables.getD t []) = true

/-- At most 24 records, no two of one kind and subject, occurrences 1..255 (R181). -/
abbrev FaultListLaw (s : State) : Prop :=
  s.faults.length ≤ 24 ∧ (s.faults.map fun r => (r.kind, r.subject)).Nodup ∧
    ∀ r ∈ s.faults, 1 ≤ r.occurrences ∧ r.occurrences ≤ 255

/-- Thirteen counters, each 0..65535 (R183). -/
abbrev CounterLaw (s : State) : Prop := s.counters.length = 13 ∧ ∀ c ∈ s.counters, c.count ≤ 65535

/-- The inbound queue holds at most four frames (R162); the Request Handler is IDLE only with an empty queue and no reply,
SERVING only while a pass-through is outstanding, and TRANSMITTING exactly while the reply buffer is full (R163, R125). -/
def HandlerLaw (s : State) : Prop :=
  s.inbound.length ≤ 4 ∧
    match s.handler with
    | .idle => s.inbound = [] ∧ s.replyBuffer = none ∧ s.passThrough = none
    | .serving _ => s.replyBuffer = none ∧ s.passThrough.isSome = true
    | .transmitting => s.replyBuffer.isSome = true ∧ s.passThrough = none

/-- The autoload is in flight exactly in START (R142, R177). -/
abbrev AutoloadLaw (s : State) : Prop := s.autoload.isSome = decide (s.mode = .start)

/-- Track-pending only in ACTIVE; the seen flags only in SAFE and never both (R141, R153); the scene timer runs exactly in
ACTIVE and DIRECT, the track timer exactly in ACTIVE, the frame clock exactly in ACTIVE, SAFE and DIRECT (R83, R147). -/
abbrev ModeLaw (s : State) : Prop :=
  AutoloadLaw s ∧
  (s.trackPending = true → s.mode = .active) ∧
  (s.sceneSeen = true → s.mode = .safe ∧ s.trackSeen = false) ∧
  (s.trackSeen = true → s.mode = .safe ∧ s.sceneSeen = false) ∧
  (s.sceneTimer.isSome = true ↔ s.mode = .active ∨ s.mode = .direct) ∧
  (s.trackTimer.isSome = true ↔ s.mode = .active) ∧
  (s.framePhase.isSome = true ↔ s.mode = .active ∨ s.mode = .safe ∨ s.mode = .direct)

/-- START and STANDBY are the modes at rest. -/
abbrev AtRest (s : State) : Prop := s.mode = .start ∨ s.mode = .standby

/-- At rest: both HOLD lines asserted, nothing staged, live or applied, no shadow window, cursors 0 (`HeadState.rest`), no
grant, exchange or pass-through, no composition, every slot free, the Beam Shaper at rest and every node record UNSEEN (R41,
R65, R72, R92, R105, R107, R113, R139, R144). -/
abbrev RestLaw (s : State) : Prop :=
  AutoloadLaw s ∧
  (AtRest s → s.left = HeadState.rest ∧ s.right = HeadState.rest ∧ s.grant = .none ∧ s.grantStart = none ∧
    s.progress = 0 ∧ s.exchange = none ∧ s.passThrough = none ∧ s.composition = none ∧ s.slots = freeSlots ∧
    s.shaper = Shaper.rest ∧ s.nodes = restNodes)

/-- Thirty node records: mismatch_count at most 8, and below mismatch_limit outside ISOLATED; fail_count at most 255 (R129,
R133, R134). -/
abbrev NodeLaw (s : State) : Prop :=
  s.nodes.length = 30 ∧ ∀ r ∈ s.nodes, r.mismatchCount ≤ 8 ∧ r.failCount ≤ 255 ∧
    (r.state ≠ .isolated → r.mismatchCount < s.itemNat 1 6)

/-- Where frames are sent, the send cursor of a present head is one of its groups (R113, R123). -/
abbrev CursorLaw (s : State) : Prop :=
  ¬ AtRest s → ∀ h, s.present h = true → (s.head h).cursor < s.nodeCount h

/-- DIRECT only while a valid speed is known and the stored speed is at most direct_speed_max + 20 (R155). -/
abbrev DirectSpeedLaw (s : State) : Prop :=
  AutoloadLaw s ∧ (s.mode = .direct → s.scene.speedKnown = true ∧ (s.scene.speed : Int) ≤ s.directSpeedMax + 20)

/-- A requester waits only while the Link Sequencer is busy, and what is in flight is what has been granted (R103, R113,
R114, R118). -/
def SequencerLaw (s : State) : Prop :=
  match s.grant with
  | .none =>
    s.exchange = none ∧ s.left.live = none ∧ s.right.live = none ∧ s.left.staged = none ∧ s.right.staged = none ∧
      s.passThrough = none
  | .head h =>
    s.exchange.isSome = true ∧ (s.head h).live.isSome = true ∧ (s.head h.other).live = none ∧
      ∀ p, s.passThrough = some p → p.inFlight = false
  | .pass =>
    s.exchange.isSome = true ∧ s.left.live = none ∧ s.right.live = none ∧
      ∃ p, s.passThrough = some p ∧ p.inFlight = true

/-- A levels block in flight to an ISOLATED node carries sixteen levels of 0 (R121, R136). -/
def IsolationLaw (s : State) : Prop :=
  ∀ x levels, s.exchange = some x → x.content = .levels levels → (s.node x.node).state = .isolated →
    levels = List.replicate 16 0

/-- A level array: 192 levels, none above 1023 (R8, R14). -/
abbrev LevelArray (levels : List Nat) : Prop := levels.length = 192 ∧ ∀ level ∈ levels, level ≤ 1023

/-- The level arrays of a head. -/
def HeadLevels (h : HeadState) : Prop :=
  LevelArray h.applied ∧ LevelArray h.direct ∧ (∀ f, h.staged = some f → LevelArray f.levels) ∧
    ∀ levels, h.live = some levels → LevelArray levels

/-- Every level the block holds or sends lies in 0..1023 (R14). -/
abbrev LevelLaw (s : State) : Prop :=
  HeadLevels s.left ∧ HeadLevels s.right ∧
    ∀ x levels, s.exchange = some x → x.content = .levels levels → levels.length = 16 ∧ ∀ level ∈ levels, level ≤ 1023

/-- The scene record stays within its ranges (R67). -/
abbrev SceneLaw (s : State) : Prop :=
  s.scene.speed ≤ 1500 ∧ -12000 ≤ s.scene.yawRate ∧ s.scene.yawRate ≤ 12000 ∧
    -320 ≤ s.scene.chassisPitch ∧ s.scene.chassisPitch ≤ 320 ∧ (s.scene.speedHeld = true → s.scene.speedKnown = true)

/-- A value lies within a bound in magnitude. -/
abbrev Within (bound x : Int) : Prop := -bound ≤ x ∧ x ≤ bound

/-- The bend of each head and the slewed bend stay within bend_max, and the filtered pitch within 320 au (R72, R76, R78). -/
abbrev ShaperLaw (s : State) : Prop :=
  Within (s.item 7 3) s.shaper.prev ∧ Within (s.item 7 3) s.shaper.bendLeft ∧ Within (s.item 7 3) s.shaper.bendRight ∧
    ∀ pf, s.shaper.pf = some pf → Within 320 pf

/-- The form of a shadow list (R60): ordered by first column, not overlapping, and at least `bridge` columns outside every
window between two consecutive ones. -/
def ShadowListForm (bridge : Int) : List Window → Prop
  | [] => True
  | [_] => True
  | a :: b :: rest => a.first ≤ b.first ∧ 0 ≤ a.gap b ∧ bridge ≤ a.gap b ∧ ShadowListForm bridge (b :: rest)

/-- A window lies on the matrix (R56). -/
abbrev Window.onMatrix (w : Window) : Prop := w.first ≤ w.last ∧ w.last ≤ 47 ∧ w.bottom ≤ w.top ∧ w.top ≤ 3

/-- What teardown leaves (R154 and the table under R152): the mode STANDBY, and every block that holds lamp-side or composition
state at rest. -/
abbrev TeardownValues (t : State) : Prop :=
  t.mode = .standby ∧ t.trackPending = false ∧ t.sceneSeen = false ∧ t.trackSeen = false ∧ t.sceneTimer = none ∧
    t.trackTimer = none ∧ t.slots = freeSlots ∧ t.shaper = Shaper.rest ∧ t.composition = none ∧ t.framePhase = none ∧
    t.left = HeadState.rest ∧ t.right = HeadState.rest ∧ t.grant = .none ∧ t.grantStart = none ∧ t.progress = 0 ∧
    t.exchange = none ∧ t.passThrough = none ∧ t.nodes = restNodes

/-- Nothing but what teardown returns to rest, the reply, the scene record, the fault list and the time differs. -/
abbrev OnlyTornDown (s t : State) : Prop :=
  t = { s with
    mode := t.mode, trackPending := t.trackPending, sceneSeen := t.sceneSeen, trackSeen := t.trackSeen,
    sceneTimer := t.sceneTimer, trackTimer := t.trackTimer, slots := t.slots, shaper := t.shaper,
    composition := t.composition, framePhase := t.framePhase, left := t.left, right := t.right, grant := t.grant,
    grantStart := t.grantStart, progress := t.progress, exchange := t.exchange, passThrough := t.passThrough,
    nodes := t.nodes, replyBuffer := t.replyBuffer, handler := t.handler, scene := t.scene, faults := t.faults,
    faultOverflow := t.faultOverflow, micros := t.micros }

/-- The shadow lists, stored and in flight, hold at most sixteen windows, and the snapshot of a composition has sixteen slots
(R39, R60). -/
abbrev ShadowCountLaw (s : State) : Prop :=
  s.left.shadows.length ≤ 16 ∧ s.right.shadows.length ≤ 16 ∧
    ∀ c, s.composition = some c → c.targets.length = 16 ∧ c.shadowsLeft.length ≤ 16 ∧ c.shadowsRight.length ≤ 16

/-- The payload of the reply being transmitted is at most 240 bytes (R165). -/
abbrev ReplySizeLaw (s : State) : Prop := ∀ r, s.replyBuffer = some r → r.payload.length ≤ 240

/-- The links of the Link Sequencer are busy: a grant is held, so that an arriving requester waits (R118). -/
abbrev SequencerBusy (s : State) : Prop := s.grant ≠ .none

end Sys2Proof.Machine
end

