-- ==== Sys2Proof/Certificates/Slice0/Obligations.lean ====
section
/-! DEFINITION. The statements for the provers.

Where a statement says which state follows, it says it as `t = { s with … }`: every field that is not named there is
unchanged, and that is the command's frame. A request row is a good frame that arrives now (log 5); `Ready` says that it is
taken at once. The time that a command for a moment of the block's own carries the block to is the model's choice (log 3). -/

section
open Sys2Proof Sys2Proof.Machine

/-! ## The machine -/

/-- A step takes the command at the front of the queue and is `exec` of it with the queue's rest. -/
def Obligations.StepTakesTheFrontCommand : Prop :=
  ∀ (c : Instr) (rest : List Instr) (s : State), s.pending = c :: rest → step s = exec c { s with pending := rest }

/-- The moments of the block's own, and what the block does while no command waits. A timer's deadline and the frame clock's
phase come when the time base next equals them; the autoload ends at 500 ms; a frame inside reception is abandoned when the
line has been silent for 40 µs; a reply ends 10·(length + 7) µs after its start, and a block 5 µs a byte after its own; the
wait for an echo, the silence in it and its hard limit are those of the exchange; a line on which a byte is coming in is not
silent. A moment already past is now, and no other command has one (R83, R109, R115, R116, R147, R160, R166, R177). On an
empty queue a microsecond passes if no moment is due; the one due moment is taken; of several, one of them is taken, and
nothing is said of which. A command for a moment without its cause changes nothing; one whose moment lies behind others takes
each of those at its own time first (the model's choices: logs 1, 2, 3, 7, 11 and 20). -/
def Obligations.EmptyQueueStepIsTheTick : Prop :=
  ∀ s : State,
    let own : List Instr :=
      [.autoloadTimeout, .sceneTimerExpiry, .trackTimerExpiry, .frameStart, .frameSilenceTimeout, .replyTransmitted,
       .blockSent, .echoStartTimeout, .echoSilenceTimeout, .echoHardLimit]
    let falls := fun (c : Instr) (t : Nat) => momentOf c s = some (max s.micros t)
    let never := fun (c : Instr) => momentOf c s = none
    let fallsAt := fun (c : Instr) (deadline : Option Millis) =>
      (deadline = none → never c) ∧
      ∀ d, deadline = some d → ∃ t, momentOf c s = some t ∧ s.micros ≤ t ∧ BitVec.ofNat 32 (t / 1000) = d ∧
        ∀ u, s.micros ≤ u → u < t → BitVec.ofNat 32 (u / 1000) ≠ d
    let inFrame := s.framer = .header ∨ s.framer = .payload ∨ s.framer = .crc
    (fallsAt .sceneTimerExpiry s.sceneTimer ∧ fallsAt .trackTimerExpiry s.trackTimer ∧ fallsAt .frameStart s.framePhase) ∧
    ((s.autoload = none → never .autoloadTimeout) ∧ (s.autoload ≠ none → falls .autoloadTimeout 500000)) ∧
    ((¬ inFrame ∨ s.rxSilentSince = none → never .frameSilenceTimeout) ∧
      ∀ t, inFrame → s.rxSilentSince = some t → falls .frameSilenceTimeout (t + 40)) ∧
    ((s.replyBuffer = none → never .replyTransmitted) ∧
      ∀ r, s.replyBuffer = some r → falls .replyTransmitted (r.startedAt + 10 * (r.payload.length + 7))) ∧
    ((s.exchange = none →
        never .blockSent ∧ never .echoStartTimeout ∧ never .echoSilenceTimeout ∧ never .echoHardLimit) ∧
      ∀ x, s.exchange = some x →
        match x.phase with
        | .sending =>
          falls .blockSent (x.startedAt + 5 * (match x.content with
            | .levels _ => 24
            | .service bytes => bytes.length + 5)) ∧
          never .echoStartTimeout ∧ never .echoSilenceTimeout ∧ never .echoHardLimit
        | .awaiting ended =>
          never .blockSent ∧ falls .echoStartTimeout (ended + s.itemNat 1 3) ∧ never .echoSilenceTimeout ∧
            falls .echoHardLimit (ended + s.itemNat 1 3 + 750)
        | .receiving ended _ silentSince =>
          never .blockSent ∧ never .echoStartTimeout ∧ falls .echoHardLimit (ended + s.itemNat 1 3 + 750) ∧
            (silentSince = none → never .echoSilenceTimeout) ∧
            ∀ t, silentSince = some t → falls .echoSilenceTimeout (t + 20)
        | .failed ended silentSince =>
          never .blockSent ∧ never .echoStartTimeout ∧ falls .echoHardLimit (ended + s.itemNat 1 3 + 750) ∧
            (silentSince = none → never .echoSilenceTimeout) ∧
            ∀ t, silentSince = some t → falls .echoSilenceTimeout (t + 20)) ∧
    (∀ c, c ∉ own → never c) ∧ (∀ c, c ∈ dueMoments s ↔ momentOf c s = some s.micros) ∧
    (s.pending = [] →
      (dueMoments s = [] → step s = .next { s with micros := s.micros + 1 }) ∧
      (∀ c, dueMoments s = [c] → step s = exec c s) ∧
      ∀ c d rest, dueMoments s = c :: d :: rest → ∃ e ∈ dueMoments s, step s = exec e { s with ties := s.ties + 1 }) ∧
    ∀ c ∈ own, exec c s = .next (runTo courseLimit c s) ∧
      (never c → ∀ n, runTo n c s = s) ∧
      ∀ t m, momentOf c s = some t → m < t → (∃ d, momentOf d s = some m) → (∀ d k, momentOf d s = some k → m ≤ k) →
        ∃ d ties u, momentOf d s = some m ∧ s.ties ≤ ties ∧ exec d { s with ties } = .next u ∧
          ∀ n, runTo (n + 1) c s = runTo n c u

/-- Every command completes, and none touches the queue: that RESET keeps it, and the count of ties, is the model's (log 8).
No command but RESET moves the time back or samples the strap. -/
def Obligations.EveryCommandCompletes : Prop :=
  ∀ (c : Instr) (s : State), ∃ t, exec c s = .next t ∧ t.pending = s.pending ∧ s.ties ≤ t.ties ∧
    ((∀ strap, c ≠ .reset strap) → s.micros ≤ t.micros ∧ t.trafficSideHigh = s.trafficSideHigh)

/-! ## Reset and autoload -/

/-- RESET leaves every block at the value the spec states for reset (R5, R18, R21, R22, R62, R67, R72, R83, R84, R92, R98,
R101, R107, R113, R129, R141, R142, R159, R162, R163, R166, R175, R177, R181, R183). The items of the eight calibration
tables, each with its range and default, are those of R175, R16, R45 and R46. That the strap's level comes as the command's
operand, and that the waiting commands stay, is the model's (log 8). -/
def Obligations.ResetLeavesTheResetValues : Prop :=
  (let profile := fun (a b : Nat) (outer middle inner : Int) =>
     ((List.range 48).map fun c =>
        ((0 : Int), (1023 : Int), if min c (47 - c) < a then outer else if min c (47 - c) < b then middle else inner)) ++
       [(0, 256, 256), (0, 256, 256), (0, 256, 192), (0, 256, 128)]
   (tableSpecs.map fun items => items.map fun item => (item.lo, item.hi, item.dflt)) =
     [[(-127, 127, -85), (-127, 127, 85), (0, 30, 1), (0, 30, 12), (0, 30, 13), (0, 30, 24), (0, 400, 0)],
      [(4, 20, 8), (50, 1000, 250), (50, 1000, 300), (100, 2000, 400), (500, 20000, 3000), (0, 15, 4), (1, 8, 3), (1, 16, 4)],
      [(0, 15, 4), (1, 4, 2), (20, 500, 80), (20, 2000, 400), (0, 16, 2), (0, 127, 48), (0, 63, 16), (0, 200, 60), (0, 63, 32),
       (0, 4, 1)],
      ([3, 2, 2, 1, 3, 0].map fun tier => (0, 3, tier)) ++
        [(4, 4, 256, 0), (12, 8, 0, 0), (16, 16, 0, 1), (24, 16, 0, 1)].flatMap fun (margin, vmargin, residual, lead) =>
          [(0, 63, margin), (0, 31, vmargin), (0, 1023, residual), (0, 1, lead)],
      profile 6 12 64 256 512, profile 6 12 128 512 1023, profile 8 16 192 640 1023,
      [(500, 4000, 2500), (100, 1000, 200), (500, 5000, 2500), (0, 384, 256), (1, 64, 12), (128, 256, 160), (1, 256, 64),
       (32, 160, 96), (1, 1023, 48), (0, 1500, 500), (0, 1500, 800), (0, 100, 30), (0, 200, 50)]]) ∧
  ∀ (strap : Bool) (s : State), ∃ t, exec (.reset strap) s = .next t ∧
    t.timeBase = 0 ∧ t.trafficSideHigh = strap ∧ t.pending = s.pending ∧
    (t.mode = .start ∧ t.trackPending = false ∧ t.sceneSeen = false ∧ t.trackSeen = false ∧ t.sceneTimer = none ∧
      t.trackTimer = none) ∧
    t.scene = { speed := 0, speedKnown := false, speedHeld := false, yawRate := 0, yawValid := false, chassisPitch := 0,
                highBeam := false, lastTime := 0, accepted := false } ∧
    (t.slots = List.replicate 16 none ∧ t.occupancy = 0 ∧ t.lastTrackTime = 0 ∧ t.trackAccepted = false) ∧
    t.shaper = { profile := none, prev := 0, pf := none, bendLeft := 0, bendRight := 0 } ∧
    t.composition = none ∧ t.framePhase = none ∧
    (∀ h, t.head h = { shadows := [], applied := List.replicate 192 0, staged := none, live := none,
                       direct := List.replicate 192 0, cursor := 0, hold := true }) ∧
    (t.grant = .none ∧ t.grantStart = none ∧ t.progress = 0 ∧ t.exchange = none ∧ t.passThrough = none) ∧
    t.nodes = List.replicate 30 { state := .unseen, mismatchCount := 0, failCount := 0, lastEcho := none } ∧
    t.tables = tableSpecs.map (fun items => items.map ItemSpec.dflt) ∧
    t.autoload = some { busAddress := 0x51, memoryAddress := 0, length := 442 } ∧
    (t.faults = [] ∧ t.faultOverflow = false ∧ t.counters = List.replicate 13 { count := 0, overflow := false }) ∧
    (t.framer = .hunt ∧ t.inbound = [] ∧ t.handler = .idle ∧ t.replyBuffer = none)

/-- The whole image has been read by 500 ms: every group with guard 01 that is sound is loaded whole, every other keeps its
table; each group with guard 01 that is not sound latches CAL_GROUP_DEFAULTED, in ascending order; and the device enters
STANDBY (R142, R177, R178). In the image the guard pairs stand in two bytes, group 0 first; group g stands at its offset, its
items two bytes each, most significant first, and then the CRC-8 over them; a group is sound when its CRC-8 matches and every
item lies in its range (R175, R176). That the image is one operand and stays in the holding buffer is the model's (log 13). -/
def Obligations.WholeImageIsJudgedGroupByGroup : Prop :=
  ∀ (image : List Byte) (s : State), s.autoload = some AutoloadRead.begun → s.micros ≤ 500000 → image.length = 442 →
    s.tables.length = 8 →
    let guards : BitVec 16 := byteAt image 0 ++ byteAt image 1
    let guarded := fun (g : Nat) => guards.extractLsb' (14 - 2 * g) 2 = 1
    let offset := fun (g : Nat) => [2, 17, 34, 55, 100, 205, 310, 415].getD g 0
    let count := fun (g : Nat) => [7, 8, 10, 22, 52, 52, 52, 13].getD g 0
    let value := fun (g i : Nat) =>
      let word : BitVec 16 := byteAt image (offset g + 2 * i) ++ byteAt image (offset g + 2 * i + 1)
      if g = 0 ∧ i < 2 then word.toInt else (word.toNat : Int)
    let sound := fun (g : Nat) =>
      crc8 ((image.drop (offset g)).take (2 * count g)) = byteAt image (offset g + 2 * count g) ∧
        ∀ i < count g, ∃ item, (tableSpec g)[i]? = some item ∧ item.lo ≤ value g i ∧ value g i ≤ item.hi
    ∃ t, exec (.autoloadReadComplete image) s = .next t ∧
      (∀ g < 8,
        (guarded g → sound g → t.tables.getD g [] = (List.range (count g)).map (value g)) ∧
        (¬ (guarded g ∧ sound g) → t.tables.getD g [] = s.tables.getD g [])) ∧
      t.tables.length = 8 ∧
      (∃ refused : List Nat,
        refused.Pairwise (· < ·) ∧ (∀ g, g ∈ refused ↔ g < 8 ∧ guarded g ∧ ¬ sound g) ∧
          let u := refused.foldl (fun u g => latchFault .calGroupDefaulted g s.timeBase u) s
          t.faults = u.faults ∧ t.faultOverflow = u.faultOverflow) ∧
      t = { s with mode := .standby, autoload := none, holdingBuffer := image, tables := t.tables, faults := t.faults,
                   faultOverflow := t.faultOverflow }

/-- The read ends without the image, by a missing acknowledge, at 500 ms, or because an image comes only after that:
CAL_ABSENT is latched, every table is at its defaults, and the device enters STANDBY (R142, R177). With no read in flight the
three autoload commands change nothing (log 7); the empty holding buffer is log 13's. AUTOLOAD_TIMEOUT carries time to its
moment, here with no other moment before it (log 3). -/
def Obligations.AutoloadWithoutImageLeavesDefaults : Prop :=
  ∀ s : State,
    let ended := fun (c : Instr) (micros : Nat) =>
      ∃ t, exec c s = .next t ∧ t.micros = micros ∧
        (t.faults = (latchFault .calAbsent 0 t.timeBase s).faults ∧
          t.faultOverflow = (latchFault .calAbsent 0 t.timeBase s).faultOverflow) ∧
        t = { s with mode := .standby, autoload := none, holdingBuffer := [], tables := defaultTables, faults := t.faults,
                     faultOverflow := t.faultOverflow, micros := t.micros }
    (s.autoload ≠ none →
      ended .eepromNoAcknowledge s.micros ∧
      (∀ image, 500000 < s.micros → ended (.autoloadReadComplete image) s.micros) ∧
      (Undisturbed .autoloadTimeout s → ended .autoloadTimeout (max s.micros 500000))) ∧
    (s.autoload = none →
      (∀ image, exec (.autoloadReadComplete image) s = .next s) ∧ exec .eepromNoAcknowledge s = .next s ∧
        exec .autoloadTimeout s = .next s)

/-! ## The vehicle link -/

/-- The framer follows the table of R159 up to the byte before the one that completes a frame; a length byte above 240
abandons the frame (R160). Silence is counted from the byte; the start bit of a byte, which comes as a command of the same row
(log 11), only ends a silence. -/
def Obligations.FramerFollowsItsTable : Prop :=
  ∀ (b : Byte) (s : State),
    let length := (byteAt s.rxBytes 2).toNat
    exec (.linkByteReceived .startBit) s = .next { s with rxSilentSince := none } ∧
    (s.framer = .hunt →
      exec (.linkByteReceived (.byte b)) s =
        .next { s with framer := if b = 0xB4 then .pair else .hunt, rxSilentSince := some s.micros }) ∧
    (s.framer = .pair → b = 0x4B →
      exec (.linkByteReceived (.byte b)) s =
        .next { s with framer := .header, rxBytes := [], rxSilentSince := some s.micros }) ∧
    (s.framer = .pair → b ≠ 0x4B →
      exec (.linkByteReceived (.byte b)) s =
        .next { s with framer := if b = 0xB4 then .pair else .hunt, rxSilentSince := some s.micros }) ∧
    (s.framer = .header → s.rxBytes.length < 2 →
      exec (.linkByteReceived (.byte b)) s = .next { s with rxBytes := s.rxBytes ++ [b], rxSilentSince := some s.micros }) ∧
    (s.framer = .header → s.rxBytes.length = 2 → b.toNat ≤ 240 →
      exec (.linkByteReceived (.byte b)) s =
        .next { s with
          framer := if b = 0 then .crc else .payload, rxBytes := s.rxBytes ++ [b], rxSilentSince := some s.micros }) ∧
    (s.framer = .header → s.rxBytes.length = 2 → 240 < b.toNat →
      exec (.linkByteReceived (.byte b)) s =
        .next (countEvent .linkFramesAbandoned { s with framer := .hunt, rxBytes := [], rxSilentSince := some s.micros })) ∧
    (s.framer = .payload → s.rxBytes.length + 1 < 3 + length →
      exec (.linkByteReceived (.byte b)) s = .next { s with rxBytes := s.rxBytes ++ [b], rxSilentSince := some s.micros }) ∧
    (s.framer = .payload → s.rxBytes.length + 1 = 3 + length →
      exec (.linkByteReceived (.byte b)) s =
        .next { s with framer := .crc, rxBytes := s.rxBytes ++ [b], rxSilentSince := some s.micros }) ∧
    (s.framer = .crc → s.rxBytes.length < 4 + length →
      exec (.linkByteReceived (.byte b)) s = .next { s with rxBytes := s.rxBytes ++ [b], rxSilentSince := some s.micros })

/-- The second CRC byte: a frame whose CRC does not match is discarded and counted; a good one joins a queue of fewer than
four with its receipt time while the Request Handler is busy, and is discarded and counted at a queue of four (R161). The
CRC-16 starts at 0xFFFF and takes each byte in its upper eight bits, by eight steps of the polynomial 0x1021 (R158). -/
def Obligations.CompleteFrameIsCheckedAndOffered : Prop :=
  (crc16 [] = 0xFFFF ∧
    ∀ (bytes : List Byte) (b : Byte), crc16 (bytes ++ [b]) =
      (List.range 8).foldl (fun (r : BitVec 16) _ => if r.getMsbD 0 = true then (r <<< 1) ^^^ 0x1021 else r <<< 1)
        (crc16 bytes ^^^ (b ++ (0 : Byte)))) ∧
  ∀ (b : Byte) (s : State),
    let length := (byteAt s.rxBytes 2).toNat
    s.framer = .crc → s.rxBytes.length = 4 + length →
    let covered := s.rxBytes.take (3 + length)
    let done := { s with framer := .hunt, rxBytes := [], rxSilentSince := some s.micros }
    let good := crc16 covered = byteAt s.rxBytes (3 + length) ++ b
    (¬ good → exec (.frameReceived b) s = .next (countEvent .linkCrcErrors done)) ∧
    (good → 4 ≤ s.inbound.length → exec (.frameReceived b) s = .next (countEvent .queueFullDrops done)) ∧
    (good → s.inbound.length < 4 → s.handler ≠ .idle →
      exec (.frameReceived b) s =
        .next { done with
          inbound := s.inbound ++ [{ type := byteAt s.rxBytes 0, tag := byteAt s.rxBytes 1, payload := covered.drop 3,
                                     receipt := s.timeBase }] })

/-- A request frame that arrives byte by byte at a framer in HUNT, the start bits told or not, acts as its request row: the
start pair, type, tag, length, payload, and the CRC-16 over the bytes between (R158, R159, R161; that the rows of the link
share one receiver, that a start bit is a command of its own, and what a request row is, are logs 6, 11 and 5). -/
def Obligations.FrameOnTheWireActsAsItsRequestRow : Prop :=
  ∀ (c : Instr) (type tag : Byte) (payload : List Byte) (startBits : Bool) (rest : List Instr) (s : State),
    requestOf c = some (type, tag, payload) → payload.length ≤ 240 → s.framer = .hunt →
      let covered := type :: tag :: BitVec.ofNat 8 payload.length :: payload
      let wire := (0xB4 :: 0x4B :: (covered ++ bigEndian 2 (crc16 covered))).flatMap fun b =>
        if startBits = true then [Instr.linkByteReceived .startBit, .linkByteReceived (.byte b)]
        else [.linkByteReceived (.byte b)]
      Host.Core.run core wire.length { s with pending := wire ++ rest } =
        exec c { s with pending := rest, rxBytes := [], rxSilentSince := some s.micros }

/-- A frame is abandoned by a framing error, by a length byte above 240, and by 40 µs of silence: it is counted, its bytes are
dropped and the framer is in HUNT; outside a frame a framing error only leaves HUNT and silence nothing (R159, R160), and no
silence lasts while a byte is coming in. The row of the silence carries time to its moment, here with no other moment before
it (logs 3 and 11). -/
def Obligations.AbandonedFrameIsDroppedAndCounted : Prop :=
  ∀ (b : Byte) (s : State),
    (s.framer.inFrame = true →
      exec (.frameAbandoned b true) s =
        .next (countEvent .linkFramesAbandoned { s with framer := .hunt, rxBytes := [], rxSilentSince := some s.micros }) ∧
      (∀ t, s.rxSilentSince = some t → Undisturbed .frameSilenceTimeout s →
        exec .frameSilenceTimeout s =
          .next (countEvent .linkFramesAbandoned
            { s with framer := .hunt, rxBytes := [], micros := max s.micros (t + 40) })) ∧
      (s.rxSilentSince = none → exec .frameSilenceTimeout s = .next s)) ∧
    (s.framer = .header → s.rxBytes.length = 2 → 240 < b.toNat →
      exec (.frameAbandoned b false) s =
        .next (countEvent .linkFramesAbandoned { s with framer := .hunt, rxBytes := [], rxSilentSince := some s.micros })) ∧
    (s.framer.inFrame = false →
      exec (.frameAbandoned b true) s = .next { s with framer := .hunt, rxSilentSince := some s.micros } ∧
      exec .frameSilenceTimeout s = .next s)

/-- The end of a reply frees its buffer, 10·(length + 7) µs after its start, and the next request of the queue is taken at
once, as `serve` carries it out (R163, R166); only a TRACK tells from the receipt time how long it has waited (R23), and of a
NODE PASS the receipt time only stays with the held request. On the wire a reply has the start pair, its type, tag, length and
payload, and the CRC-16 over the bytes between (R158, R165). The row carries time to that moment, here with no other moment
before it (log 3); without a reply there is none (log 7). -/
def Obligations.EndOfReplyTakesTheNextRequest : Prop :=
  ∀ s : State,
    (s.replyBuffer = none → exec .replyTransmitted s = .next s) ∧
    (∀ r, s.replyBuffer = some r → Undisturbed .replyTransmitted s →
      let done := { s with replyBuffer := none, handler := .idle,
                           micros := max s.micros (r.startedAt + 10 * (r.payload.length + 7)) }
      (s.inbound = [] → exec .replyTransmitted s = .next done) ∧
      (∀ f rest, s.inbound = f :: rest → exec .replyTransmitted s = .next (serve f { done with inbound := rest })) ∧
      (let covered := r.type :: r.tag :: BitVec.ofNat 8 r.payload.length :: r.payload
       r.wire = 0xB4 :: 0x4B :: (covered ++ bigEndian 2 (crc16 covered)))) ∧
    ∀ (f : LinkFrame) (receipt : Millis), f.type ≠ 2 →
      (f.type ≠ 9 → serve { f with receipt } s = serve f s) ∧
        ∀ handler, { serve { f with receipt } s with handler } = { serve f s with handler }

/-- A request row at a busy Request Handler: the request is queued with its receipt time, or dropped and counted at a queue of
four, whatever the request; at an IDLE one with an empty queue it is taken at once, as `serve` carries it out. That a request
row is a good frame that is received now and offered to the inbound queue is the model's choice (log 5); what becomes of such
a frame is R161's, R162's and R163's. -/
def Obligations.BusyHandlerQueuesOrDrops : Prop :=
  ∀ (c : Instr) (type tag : Byte) (payload : List Byte) (s : State),
    requestOf c = some (type, tag, payload) →
      (s.handler ≠ .idle → s.inbound.length < 4 →
        exec c s = .next { s with inbound := s.inbound ++ [{ type, tag, payload, receipt := s.timeBase }] }) ∧
      (s.handler ≠ .idle → 4 ≤ s.inbound.length → exec c s = .next (countEvent .queueFullDrops s)) ∧
      (Ready s → exec c s = .next (serve { type, tag, payload, receipt := s.timeBase } s))

/-- A request of unknown type, of unfitting length, or not accepted in the mode is answered by the first check that fails and
changes nothing else (R164, R165, and the table "Requests by mode" of chapter 8). What every reply shows: the code of its
status, and the summary block of mode, profile state, flags, table occupancy, shadow counts and fault bits (R165, R167, R168).
-/
def Obligations.RefusedRequestOnlyGetsItsAnswer : Prop :=
  (∀ (c : Instr) (type tag : Byte) (payload : List Byte) (s : State),
    requestOf c = some (type, tag, payload) → Ready s →
      (¬ knownType type → ∃ t, exec c s = .next t ∧ Replied type tag .unknownType [] t ∧ OnlyReplied s t) ∧
      (knownType type → lengthFits type payload = false →
        ∃ t, exec c s = .next t ∧ Replied type tag .badLength [] t ∧ OnlyReplied s t) ∧
      (knownType type → lengthFits type payload = true → acceptedIn type s.mode = false →
        ∃ t, exec c s = .next t ∧ Replied type tag .wrongState [] t ∧ OnlyReplied s t)) ∧
  (∀ s : State, ∃ (flags : Byte) (faults : BitVec 16),
    let modeCode : Byte := match s.mode with
      | .start => 0
      | .standby => 1
      | .active => 2
      | .safe => 3
      | .direct => 4
    let profile : Byte := match s.shaper.profile with
      | none => 0
      | some .town => 1
      | some .country => 2
      | some .motorway => 3
    let faultBit := fun (kind : FaultKind) => match kind with
      | .calAbsent => 0
      | .calGroupDefaulted => 1
      | .sceneLost => 2
      | .trackLost => 3
      | .directAborted => 4
      | .nodeSilent => 5
      | .nodeIsolated => 6
      | .stringOpen => 7
      | .stringShort => 8
    s.summary =
        [modeCode, profile, flags, BitVec.ofNat 8 (s.slots.filter Option.isSome).length,
          BitVec.ofNat 8 s.left.shadows.length, BitVec.ofNat 8 s.right.shadows.length] ++ bigEndian 2 faults ∧
      (∀ i, flags.getLsbD i = true ↔
        (i = 0 ∧ s.scene.highBeam = true) ∨ (i = 1 ∧ s.trackPending = true) ∨ (i = 2 ∧ s.scene.speedHeld = true)) ∧
      ∀ i, faults.getLsbD i = true ↔ ∃ r ∈ s.faults, faultBit r.kind = i) ∧
  ∀ status : Status, status.code = match status with
    | .ok => 0x00
    | .clamped => 0x01
    | .badLength => 0x10
    | .badField => 0x11
    | .wrongState => 0x12
    | .noRoute => 0x13
    | .nodeTimeout => 0x14
    | .configInconsistent => 0x15
    | .unknownType => 0x16

/-- The field checks of the requests: each is answered BAD_FIELD and changes nothing else (R22, R99, R145, R164, R169, R171,
R173, R180). -/
def Obligations.BadFieldRequestOnlyGetsItsAnswer : Prop :=
  ∀ (tag : Byte) (payload : List Byte) (s : State), Ready s →
    let refused := fun (c : Instr) (type : Byte) =>
      ∃ t, exec c s = .next t ∧ Replied type tag .badField [] t ∧ OnlyReplied s t
    (∀ kind rest, payload = kind :: rest → 6 < kind.toNat → refused (.queryNoKind tag payload) 5) ∧
    (∀ target, payload = [target] → 2 < target.toNat → s.mode ≠ .start → refused (.modeNoTarget tag payload) 4) ∧
    (lengthFits 2 payload = true → acceptedIn 2 s.mode = true → 12 < (byteAt payload 3).toNat →
      refused (.track tag payload) 2) ∧
    (∀ head, payload = [head] → 1 < head.toNat → refused (.queryShadows tag payload) 5) ∧
    (∀ head group, payload = [head, group] → 1 < head.toNat ∨ 11 < group.toNat →
      refused (.queryLevels tag payload) 5) ∧
    (∀ table index count, payload = [table, index, count] → s.mode ≠ .start →
      count.toNat = 0 ∨ 64 < count.toNat ∨ 7 < table.toNat ∨ (tableSpec table.toNat).length ≤ index.toNat →
        refused (.configRead tag payload) 7) ∧
    (payload.length = 34 → s.mode = .direct → 1 < (byteAt payload 0).toNat ∨ 11 < (byteAt payload 1).toNat →
      refused (.directLevels tag payload) 8)

/-! ## Scene data -/

/-- The scene record after a SCENE: speed, yaw rate, chassis pitch and flags by their tables, the time and the mark, and
whether a value was clamped (R68, R69, R70). -/
def Obligations.SceneFieldsFollowTheirTables : Prop :=
  ∀ (payload : List Byte) (now : Millis) (r : SceneRecord),
    let word := fun (i : Nat) => byteAt payload i ++ byteAt payload (i + 1)
    let v := (word 0).toNat
    let yaw := (word 2).toInt
    let pitch := (word 4).toInt
    let t := (takeScene payload now r).1
    (v ≤ 1500 → t.speed = v ∧ t.speedKnown = true ∧ t.speedHeld = false) ∧
    (1500 < v → v < 65535 → t.speed = 1500 ∧ t.speedKnown = true ∧ t.speedHeld = false) ∧
    (v = 65535 → r.speedKnown = true → t.speed = r.speed ∧ t.speedKnown = true ∧ t.speedHeld = true) ∧
    (v = 65535 → r.speedKnown = false → t.speed = r.speed ∧ t.speedKnown = false ∧ t.speedHeld = r.speedHeld) ∧
    (yaw = -32768 → t.yawRate = r.yawRate ∧ t.yawValid = false) ∧
    (yaw ≠ -32768 → t.yawRate = max (-12000) (min 12000 yaw) ∧ t.yawValid = true) ∧
    (pitch = -32768 → t.chassisPitch = r.chassisPitch) ∧
    (pitch ≠ -32768 → t.chassisPitch = max (-320) (min 320 pitch)) ∧
    t.highBeam = (byteAt payload 6).getLsbD 0 ∧ t.lastTime = now ∧ t.accepted = true ∧
    ((takeScene payload now r).2 = true ↔
      (1500 < v ∧ v < 65535) ∨ (yaw ≠ -32768 ∧ (yaw < -12000 ∨ 12000 < yaw)) ∨
        (pitch ≠ -32768 ∧ (pitch < -320 ∨ 320 < pitch)))

/-- An accepted SCENE stores its values and acts by the mode: nothing more in STANDBY; the scene timer restarts in ACTIVE and
in DIRECT; in SAFE scene-seen is set, or the device enters ACTIVE when a TRACK has been seen; in DIRECT a speed above
direct_speed_max + 20 ends the stay by teardown with DIRECT_ABORTED (R68, R147, R153, R155). -/
def Obligations.AcceptedSceneActsByMode : Prop :=
  ∀ (tag : Byte) (payload : List Byte) (s : State), Ready s → payload.length = 7 →
    let r := takeScene payload s.timeBase s.scene
    let answered := fun (t : State) =>
      exec (.scene tag payload) s = .next t ∧ Replied 1 tag (if r.2 = true then .clamped else .ok) [] t
    let sceneDeadline := s.timeBase + millis (s.item 1 1)
    let trackDeadline := s.timeBase + millis (s.item 1 2)
    (s.mode = .standby →
      ∃ t, answered t ∧ t = { s with scene := r.1, replyBuffer := t.replyBuffer, handler := t.handler }) ∧
    (s.mode = .active →
      ∃ t, answered t ∧
        t = { s with scene := r.1, sceneTimer := some sceneDeadline, replyBuffer := t.replyBuffer, handler := t.handler }) ∧
    (s.mode = .safe → s.trackSeen = false →
      ∃ t, answered t ∧
        t = { s with scene := r.1, sceneSeen := true, replyBuffer := t.replyBuffer, handler := t.handler }) ∧
    (s.mode = .safe → s.trackSeen = true →
      ∃ t, answered t ∧
        t = { s with
          scene := r.1, mode := .active, trackPending := false, sceneSeen := false, trackSeen := false,
          sceneTimer := some sceneDeadline, trackTimer := some trackDeadline, replyBuffer := t.replyBuffer,
          handler := t.handler }) ∧
    (s.mode = .direct → (r.1.speed : Int) ≤ s.item 7 12 + 20 →
      ∃ t, answered t ∧
        t = { s with scene := r.1, sceneTimer := some sceneDeadline, replyBuffer := t.replyBuffer, handler := t.handler }) ∧
    (s.mode = .direct → s.item 7 12 + 20 < (r.1.speed : Int) →
      ∃ t, answered t ∧ TeardownValues t ∧ t.scene = r.1 ∧ t.micros = s.micros ∧
        t.faults = (latchFault .directAborted 0 s.timeBase s).faults ∧
        t.faultOverflow = (latchFault .directAborted 0 s.timeBase s).faultOverflow ∧ OnlyTornDown s t)

/-! ## The Target Table -/

/-- An accepted TRACK is recorded and acts by the mode: in ACTIVE it clears track-pending and restarts the track timer; in
SAFE it sets track-seen, or the device enters ACTIVE when a SCENE has been seen. Its observations, taken in their order, each
on what those before it have left, give the table, the counters and two bytes each in the reply, the outcome with the clamped
mark and the victim id; their time is the receipt time less image_age, also of a TRACK that has waited in the queue (R22, R23,
R24, R36, R147, R150, R153, R170, R174). A row is received as it is taken (log 5). -/
def Obligations.AcceptedTrackActsByMode : Prop :=
  (∀ (n : Nat) (bytes : List Byte), (parseObservations n bytes).length = n ∧
    ∀ j < n,
      let byte := fun (i : Nat) => byteAt bytes (17 * j + i)
      let word := fun (i : Nat) => byte i ++ byte (i + 1)
      (parseObservations n bytes)[j]? = some
        { id := (byte 0).toNat, cls := (byte 1).toNat, azL := (word 2).toInt, azR := (word 4).toInt, rate := (word 6).toInt,
          elevBottom := (word 8).toInt, elevTop := (word 10).toInt, range := (word 12).toNat,
          confidence := (byte 14).toNat % 16, leaving := (byte 14).getLsbD 7 }) ∧
  (∀ (x : Exposure) (s : State), observeAll x [] s = (s, [], false) ∧
    ∀ (o : Observation) (os : List Observation),
      let r := observe x o s
      let rest := observeAll x os r.state
      let code : Byte := match r.outcome with
        | .added => 1
        | .addedEvicting _ => 2
        | .updated => 3
        | .removed => 4
        | .notFound => 5
        | .refusedField => 6
        | .refusedConfidence => 7
        | .tableFull => 8
      let victim : Byte := match r.outcome with
        | .addedEvicting id => BitVec.ofNat 8 id
        | _ => 0
      observeAll x (o :: os) s =
        (rest.1, (if r.mark = true then code ||| 0x80 else code) :: victim :: rest.2.1, r.mark || rest.2.2)) ∧
  ∀ (f : LinkFrame) (s : State), f.type = 2 → 4 ≤ f.payload.length →
    f.payload.length = 4 + 17 * (byteAt f.payload 3).toNat → (byteAt f.payload 3).toNat ≤ 12 →
    let pitch := (byteAt f.payload 1 ++ byteAt f.payload 2).toInt
    let x : Exposure :=
      { obsTime := f.receipt - BitVec.ofNat 32 (byteAt f.payload 0).toNat, cabPitch := max (-160) (min 160 pitch) }
    let r := observeAll x (parseObservations (byteAt f.payload 3).toNat (f.payload.drop 4)) s
    let status : Status := if pitch < -160 ∨ 160 < pitch ∨ r.2.2 = true then .clamped else .ok
    let answered := fun (t : State) =>
      serve f s = t ∧ (Ready s → f.receipt = s.timeBase → exec (.track f.tag f.payload) s = .next t) ∧
        Replied 2 f.tag status r.2.1 t
    (s.mode = .active →
      ∃ t, answered t ∧
        t = { s with
          lastTrackTime := s.timeBase, trackAccepted := true, trackPending := false,
          trackTimer := some (s.timeBase + millis (s.item 1 2)), slots := r.1.slots, counters := r.1.counters,
          replyBuffer := t.replyBuffer, handler := t.handler }) ∧
    (s.mode = .safe → s.sceneSeen = false →
      ∃ t, answered t ∧
        t = { s with
          lastTrackTime := s.timeBase, trackAccepted := true, trackSeen := true, slots := r.1.slots,
          counters := r.1.counters, replyBuffer := t.replyBuffer, handler := t.handler }) ∧
    (s.mode = .safe → s.sceneSeen = true →
      ∃ t, answered t ∧
        t = { s with
          lastTrackTime := s.timeBase, trackAccepted := true, mode := .active, trackPending := false, sceneSeen := false,
          trackSeen := false, sceneTimer := some (s.timeBase + millis (s.item 1 1)),
          trackTimer := some (s.timeBase + millis (s.item 1 2)), slots := r.1.slots, counters := r.1.counters,
          replyBuffer := t.replyBuffer, handler := t.handler })

/-- An observation with LEAVING set and a valid id frees the slot of that id, or finds none; no counter changes (R28). -/
def Obligations.LeavingFreesTheSlotOfItsId : Prop :=
  ∀ (x : Exposure) (o : Observation) (s : State), TargetTableLaw s → o.leaving = true → 1 ≤ o.id → o.id ≤ 63 →
    (∀ (i : Nat) (e : Entry), s.slots[i]? = some (some e) → e.id = o.id →
      (observe x o s).state = { s with slots := s.slots.set i none } ∧ (observe x o s).outcome = .removed ∧
        (observe x o s).mark = false) ∧
    (o.id ∉ entryIds s.slots →
      (observe x o s).state = s ∧ (observe x o s).outcome = .notFound ∧ (observe x o s).mark = false)

/-- An observation is refused for a field exactly on the conditions of R25, and a new id for its confidence below
admit_confidence; a refusal changes the counter OBS_REFUSED alone (R25, R26, R30). -/
def Obligations.RefusedObservationOnlyCounts : Prop :=
  ∀ (x : Exposure) (o : Observation) (s : State),
    let badId := o.id = 0 ∨ 63 < o.id
    let badField := badId ∨ 5 < o.cls ∨ o.azR < o.azL ∨ o.azL < -1024 ∨ 1023 < o.azL ∨ o.azR < -1024 ∨ 1023 < o.azR ∨
      o.elevTop < o.elevBottom ∨ o.elevBottom < -256 ∨ 255 < o.elevBottom ∨ o.elevTop < -256 ∨ 255 < o.elevTop
    let marked := o.rate < -2000 ∨ 2000 < o.rate ∨ 8191 < o.range
    ((observe x o s).outcome = .refusedField ↔ (o.leaving = true ∧ badId) ∨ (o.leaving = false ∧ badField)) ∧
    ((observe x o s).outcome = .refusedField →
      (observe x o s).state = countEvent .obsRefused s ∧ (observe x o s).mark = false) ∧
    (o.leaving = false → ¬ badField → o.id ∉ entryIds s.slots → o.confidence < s.itemNat 2 0 →
      (observe x o s).outcome = .refusedConfidence ∧ (observe x o s).state = countEvent .obsRefused s) ∧
    (o.leaving = false → ¬ badField → ((observe x o s).mark = true ↔ marked))

/-- An observation of a known id rewrites the entry in its slot, with the values of R27 and the hits and state of R29, and
changes nothing else. -/
def Obligations.UpdateRewritesTheEntryInItsSlot : Prop :=
  ∀ (x : Exposure) (o : Observation) (s : State) (i : Nat) (old : Entry), TargetTableLaw s → o.leaving = false →
    o.badFields = false → s.slots[i]? = some (some old) → old.id = o.id →
      let hits := min 15 (old.hits + 1)
      (observe x o s).outcome = .updated ∧
      (observe x o s).state =
        { s with
          slots := s.slots.set i (some
            { id := o.id, cls := o.cls, tier := s.itemNat 3 o.cls, azL := o.azL, azR := o.azR,
              rate := max (-2000) (min 2000 o.rate), elevB := o.elevBottom + x.cabPitch, elevT := o.elevTop + x.cabPitch,
              range := min o.range 8191, confidence := o.confidence, obsTime := x.obsTime, hits,
              state := if old.state = .tentative ∧ hits < s.itemNat 2 1 then .tentative else .active }) }

/-- A new id that passes the gate takes the lowest free slot; in a full table it takes the slot of the victim among the
TENTATIVE entries, or without one among the entries of a lower tier, all of which are compared in slot order; without a
candidate the table is unchanged (R30, R31, R32, R34). -/
def Obligations.NewIdIsAdmittedEvictsOrIsTurnedAway : Prop :=
  ∀ (x : Exposure) (o : Observation) (s : State), o.leaving = false → o.badFields = false → o.id ∉ entryIds s.slots →
    s.itemNat 2 0 ≤ o.confidence →
    let entry : Entry :=
      { id := o.id, cls := o.cls, tier := s.itemNat 3 o.cls, azL := o.azL, azR := o.azR,
        rate := max (-2000) (min 2000 o.rate), elevB := o.elevBottom + x.cabPitch, elevT := o.elevTop + x.cabPitch,
        range := min o.range 8191, confidence := o.confidence, obsTime := x.obsTime, hits := 1,
        state := if s.itemNat 2 1 = 1 then .active else .tentative }
    let candidate := fun (j : Nat) (e : Entry) => s.slots[j]? = some (some e) ∧
      (e.state = .tentative ∨
        (e.tier < s.itemNat 3 o.cls ∧ ∀ (k : Nat) (d : Entry), s.slots[k]? = some (some d) → d.state ≠ .tentative))
    let candidates := evictionCandidates s.slots (s.itemNat 3 o.cls)
    ((candidates.map Prod.fst).Pairwise (· < ·) ∧ ∀ j e, (j, e) ∈ candidates ↔ candidate j e) ∧
    (∀ i : Nat, s.slots[i]? = some none → (∀ j < i, s.slots[j]? ≠ some none) →
      (observe x o s).outcome = .added ∧ (observe x o s).state = { s with slots := s.slots.set i (some entry) }) ∧
    ((∀ i : Nat, s.slots[i]? ≠ some none) → (∃ j e, candidate j e) →
      ∃ i victim, candidate i victim ∧
        chooseVictim s.timeBase candidates = some (i, victim) ∧
        (observe x o s).outcome = .addedEvicting victim.id ∧
        (observe x o s).state = countEvent .evictions { s with slots := s.slots.set i (some entry) }) ∧
    ((∀ i : Nat, s.slots[i]? ≠ some none) → (¬ ∃ j e, candidate j e) →
      (observe x o s).outcome = .tableFull ∧ (observe x o s).state = countEvent .obsTableFull s)

/-- The victim among candidates in slot order goes before every other candidate by the comparisons of R33: the lowest tier,
the largest range, the largest age, the lowest slot; and every non-empty candidate set yields one. -/
def Obligations.VictimIsFirstByTheEvictionOrder : Prop :=
  ∀ (now : Millis) (candidates : List (Nat × Entry)), (candidates.map Prod.fst).Pairwise (· < ·) →
    (candidates ≠ [] → (chooseVictim now candidates).isSome = true) ∧
    ∀ p, chooseVictim now candidates = some p → p ∈ candidates ∧
      ∀ q ∈ candidates, q ≠ p →
        p.2.tier < q.2.tier ∨ (p.2.tier = q.2.tier ∧
          (q.2.range < p.2.range ∨ (q.2.range = p.2.range ∧
            (ageOf now q.2.obsTime < ageOf now p.2.obsTime ∨
              (ageOf now q.2.obsTime = ageOf now p.2.obsTime ∧ p.1 < q.1)))))

/-- DROP removes every entry for id 0, the entry of its id otherwise, and reports how many (R37). -/
def Obligations.DropRemovesAndReportsEntries : Prop :=
  ∀ (tag id : Byte) (s : State), Ready s → s.mode = .active ∨ s.mode = .safe → TargetTableLaw s →
    let answered := fun (t : State) (n : Nat) =>
      exec (.drop tag [id]) s = .next t ∧ Replied 3 tag .ok [BitVec.ofNat 8 n] t
    (id = 0 →
      ∃ t, answered t s.occupancy ∧
        t = { s with slots := List.replicate 16 none, replyBuffer := t.replyBuffer, handler := t.handler }) ∧
    (∀ (i : Nat) (e : Entry), id ≠ 0 → s.slots[i]? = some (some e) → e.id = id.toNat →
      ∃ t, answered t 1 ∧ t = { s with slots := s.slots.set i none, replyBuffer := t.replyBuffer, handler := t.handler }) ∧
    (id ≠ 0 → id.toNat ∉ entryIds s.slots → ∃ t, answered t 0 ∧ OnlyReplied s t)

/-- Aging at a frame start: an entry whose age is above coast_limit is removed; then an ACTIVE one whose age is above
coast_start becomes COASTING; every other slot is as it was, and nothing but the slots changes (R38). -/
def Obligations.AgingRemovesAndCoasts : Prop :=
  ∀ (now : Millis) (s : State),
    ageTable now s = { s with slots := (ageTable now s).slots } ∧ (ageTable now s).slots.length = s.slots.length ∧
    ∀ i : Nat,
      (s.slots[i]? = some none → (ageTable now s).slots[i]? = some none) ∧
      ∀ e, s.slots[i]? = some (some e) →
        let age : Int := ageOf now e.obsTime
        (s.item 2 3 < age → (ageTable now s).slots[i]? = some none) ∧
        (age ≤ s.item 2 3 → e.state = .active → s.item 2 2 < age →
          (ageTable now s).slots[i]? = some (some { e with state := .coasting })) ∧
        (age ≤ s.item 2 3 → e.state ≠ .active ∨ age ≤ s.item 2 2 → (ageTable now s).slots[i]? = some (some e))

/-! ## Modes -/

/-- MODE STANDBY: teardown from ACTIVE, SAFE and DIRECT, with the reply built after it; no change in STANDBY (R145, R154). -/
def Obligations.ModeStandbyTearsDown : Prop :=
  ∀ (tag : Byte) (s : State), Ready s →
    (s.mode = .standby → ∃ t, exec (.modeStandby tag) s = .next t ∧ Replied 4 tag .ok [] t ∧ OnlyReplied s t) ∧
    (s.mode = .active ∨ s.mode = .safe ∨ s.mode = .direct →
      ∃ t, exec (.modeStandby tag) s = .next t ∧ Replied 4 tag .ok [] t ∧ TeardownValues t ∧ t.scene = s.scene ∧
        t.faults = s.faults ∧ t.faultOverflow = s.faultOverflow ∧ t.micros = s.micros ∧ OnlyTornDown s t)

/-- The consistency check passes exactly when the nine conditions hold, and otherwise names the table and item of the first
that fails (R146). -/
def Obligations.ConsistencyCheckNamesTheFirstFailure : Prop :=
  ∀ s : State,
    let absent := fun (h : Head) => s.firstNode h = 0 ∧ s.lastNode h = 0
    let conditions : List (Prop × Nat × Nat) :=
      [(absent .left ∨ 1 ≤ s.item 0 2, 0, 2),
       (absent .left ∨ (s.item 0 2 ≤ s.item 0 3 ∧ s.item 0 3 - s.item 0 2 + 1 ≤ 12), 0, 3),
       (absent .right ∨ 1 ≤ s.item 0 4, 0, 4),
       (absent .right ∨ (s.item 0 4 ≤ s.item 0 5 ∧ s.item 0 5 - s.item 0 4 + 1 ≤ 12), 0, 5),
       (¬ absent .left ∨ ¬ absent .right, 0, 2),
       (absent .left ∨ absent .right ∨
          ¬ ∃ n : Int, s.item 0 2 ≤ n ∧ n ≤ s.item 0 3 ∧ s.item 0 4 ≤ n ∧ n ≤ s.item 0 5, 0, 4),
       (s.item 2 2 ≤ s.item 2 3, 2, 2), (s.item 7 1 ≤ s.item 7 2, 7, 1),
       (s.item 7 9 + s.item 7 11 < s.item 7 10 - s.item 7 11, 7, 9)]
    (s.firstFailure = none ↔ ∀ c ∈ conditions, c.1) ∧
    ∀ c, s.firstFailure = some c →
      ∃ before d after, conditions = before ++ d :: after ∧ (∀ b ∈ before, b.1) ∧ ¬ d.1 ∧ c.table = d.2.1 ∧ c.item = d.2.2

/-- MODE ACTIVATE: in STANDBY the check, then ACTIVE with track-pending set, both timers and the frame clock started and the
HOLD lines of the present heads released; a failed check names its item and changes nothing; no change in ACTIVE (R83, R107,
R145, R146, R147, R148). In SAFE and DIRECT it is answered WRONG_STATE. -/
def Obligations.ModeActivateEntersActive : Prop :=
  ∀ (tag : Byte) (s : State), Ready s →
    (s.mode = .standby → s.firstFailure = none →
      ∃ t, exec (.modeActivate tag) s = .next t ∧ Replied 4 tag .ok [] t ∧
        t = { s with
          mode := .active, trackPending := true, sceneSeen := false, trackSeen := false,
          sceneTimer := some (s.timeBase + millis (s.item 1 1)), trackTimer := some (s.timeBase + millis (s.item 1 2)),
          framePhase := some (s.timeBase + millis (s.item 1 0)),
          left := { s.left with hold := !s.present .left }, right := { s.right with hold := !s.present .right },
          replyBuffer := t.replyBuffer, handler := t.handler }) ∧
    (∀ c, s.mode = .standby → s.firstFailure = some c →
      ∃ t, exec (.modeActivate tag) s = .next t ∧
        Replied 4 tag .configInconsistent [BitVec.ofNat 8 c.table, BitVec.ofNat 8 c.item] t ∧ OnlyReplied s t) ∧
    (s.mode = .active → ∃ t, exec (.modeActivate tag) s = .next t ∧ Replied 4 tag .ok [] t ∧ OnlyReplied s t) ∧
    (s.mode = .safe ∨ s.mode = .direct →
      ∃ t, exec (.modeActivate tag) s = .next t ∧ Replied 4 tag .wrongState [] t ∧ OnlyReplied s t)

/-- MODE DIRECT: in STANDBY the check, then the speed, then DIRECT with the scene timer and the frame clock started, the
direct frames at 0 and the HOLD lines of the present heads released; a failed check names its item; an unknown or too high
speed is answered WRONG_STATE; no change in DIRECT (R83, R98, R107, R145, R146, R147, R149). -/
def Obligations.ModeDirectEntersDirect : Prop :=
  ∀ (tag : Byte) (s : State), Ready s →
    (s.mode = .standby → s.firstFailure = none → s.scene.speedKnown = true → (s.scene.speed : Int) ≤ s.item 7 12 →
      ∃ t, exec (.modeDirect tag) s = .next t ∧ Replied 4 tag .ok [] t ∧
        t = { s with
          mode := .direct, trackPending := false, sceneSeen := false, trackSeen := false,
          sceneTimer := some (s.timeBase + millis (s.item 1 1)), trackTimer := none,
          framePhase := some (s.timeBase + millis (s.item 1 0)),
          left := { s.left with hold := !s.present .left, direct := List.replicate 192 0 },
          right := { s.right with hold := !s.present .right, direct := List.replicate 192 0 },
          replyBuffer := t.replyBuffer, handler := t.handler }) ∧
    (s.mode = .standby → s.firstFailure = none → s.scene.speedKnown = false ∨ s.item 7 12 < (s.scene.speed : Int) →
      ∃ t, exec (.modeDirect tag) s = .next t ∧ Replied 4 tag .wrongState [] t ∧ OnlyReplied s t) ∧
    (∀ c, s.mode = .standby → s.firstFailure = some c →
      ∃ t, exec (.modeDirect tag) s = .next t ∧
        Replied 4 tag .configInconsistent [BitVec.ofNat 8 c.table, BitVec.ofNat 8 c.item] t ∧ OnlyReplied s t) ∧
    (s.mode = .direct → ∃ t, exec (.modeDirect tag) s = .next t ∧ Replied 4 tag .ok [] t ∧ OnlyReplied s t) ∧
    (s.mode = .active ∨ s.mode = .safe →
      ∃ t, exec (.modeDirect tag) s = .next t ∧ Replied 4 tag .wrongState [] t ∧ OnlyReplied s t)

/-- The expiries. The scene timer's: in ACTIVE SAFE is entered with SCENE_LOST, in DIRECT the stay ends by teardown with
DIRECT_ABORTED and an outstanding NODE PASS is answered WRONG_STATE. The track timer's: in ACTIVE SAFE is entered with
TRACK_LOST (R127, R147, R151, R152, R155). In the modes in which a timer never runs its expiry only stops it, and a stopped
timer has none: both are the model's (log 7), and so is the order of the fault and the reply (log 9). The rows carry time to
the deadline, here with no other moment before it (log 3). -/
def Obligations.TimerExpiriesActByMode : Prop :=
  ∀ s : State,
    ((s.sceneTimer = none → exec .sceneTimerExpiry s = .next s) ∧
    ∀ deadline, s.sceneTimer = some deadline → Undisturbed .sceneTimerExpiry s →
      ∃ t, exec .sceneTimerExpiry s = .next t ∧ t.timeBase = deadline ∧ s.micros ≤ t.micros ∧
        (s.mode = .active →
          t.faults = (latchFault .sceneLost 0 deadline s).faults ∧
          t.faultOverflow = (latchFault .sceneLost 0 deadline s).faultOverflow ∧
          t = { s with
            micros := t.micros, mode := .safe, trackPending := false, sceneSeen := false, trackSeen := false,
            sceneTimer := none, trackTimer := none, slots := List.replicate 16 none, faults := t.faults,
            faultOverflow := t.faultOverflow }) ∧
        (s.mode = .direct →
          TeardownValues t ∧ t.scene = s.scene ∧ t.faults = (latchFault .directAborted 0 deadline s).faults ∧
          t.faultOverflow = (latchFault .directAborted 0 deadline s).faultOverflow ∧ OnlyTornDown s t ∧
          (∀ f, s.handler = .serving f → Replied f.type f.tag .wrongState [] t) ∧
          ((∀ f, s.handler ≠ .serving f) → t.handler = s.handler ∧ t.replyBuffer = s.replyBuffer)) ∧
        (s.mode = .start ∨ s.mode = .standby ∨ s.mode = .safe →
          t = { s with micros := t.micros, sceneTimer := none })) ∧
    (s.trackTimer = none → exec .trackTimerExpiry s = .next s) ∧
    ∀ deadline, s.trackTimer = some deadline → Undisturbed .trackTimerExpiry s →
      ∃ t, exec .trackTimerExpiry s = .next t ∧ t.timeBase = deadline ∧ s.micros ≤ t.micros ∧
        (s.mode = .active →
          t.faults = (latchFault .trackLost 0 deadline s).faults ∧
          t.faultOverflow = (latchFault .trackLost 0 deadline s).faultOverflow ∧
          t = { s with
            micros := t.micros, mode := .safe, trackPending := false, sceneSeen := false, trackSeen := false,
            sceneTimer := none, trackTimer := none, slots := List.replicate 16 none, faults := t.faults,
            faultOverflow := t.faultOverflow }) ∧
        (s.mode ≠ .active → t = { s with micros := t.micros, trackTimer := none })

/-! ## Queries and configuration -/

/-- The five queries that empty nothing report what the blocks hold, in every mode, and change nothing but the reply: SUMMARY
the scene record, the shaper record and the ages of the last SCENE and TRACK; TARGETS the occupied slots in ascending order, a
record of 112 bits each; NODES the thirty records, of seven bytes each; SHADOWS the stored list of a head; LEVELS the applied
levels of a group (R44, R66, R82, R95, R140, R171, R172, R174). -/
def Obligations.QueriesReportAndChangeNothing : Prop :=
  ∀ (tag : Byte) (s : State), Ready s →
    let reports := fun (c : Instr) (part : List Byte) =>
      ∃ t, exec c s = .next t ∧ Replied 5 tag .ok part t ∧ OnlyReplied s t
    let code : Head → Byte := fun h => match h with
      | .left => 0
      | .right => 1
    let natural := fun (n : Nat) => bigEndian 2 (BitVec.ofNat 16 n)
    let integer := fun (x : Int) => bigEndian 2 (BitVec.ofInt 16 x)
    let age := fun (since : Millis) => min 65535 (s.timeBase - since).toNat
    let profile : Byte :=
      if s.shaper.profile = some .town then 1 else if s.shaper.profile = some .country then 2
      else if s.shaper.profile = some .motorway then 3 else 0
    let entry := fun (slot : Nat) (e : Entry) =>
      let state := if e.state = .tentative then 0 else if e.state = .active then 1 else 2
      BitVec.ofNat 4 slot ++ BitVec.ofNat 2 state ++ BitVec.ofNat 4 e.hits ++ BitVec.ofNat 6 e.id ++ BitVec.ofNat 3 e.cls ++
        BitVec.ofNat 2 e.tier ++ BitVec.ofNat 4 e.confidence ++ BitVec.ofInt 11 e.azL ++ BitVec.ofInt 11 e.azR ++
        BitVec.ofInt 12 e.rate ++ BitVec.ofInt 10 e.elevB ++ BitVec.ofInt 10 e.elevT ++ BitVec.ofNat 13 e.range ++
        BitVec.ofNat 16 (age e.obsTime) ++ (0 : BitVec 4)
    let node := fun (id : Nat) (r : NodeRecord) =>
      let state :=
        if r.state = .unseen then 0 else if r.state = .ok then 1 else if r.state = .suspect then 2
        else if r.state = .silent then 3 else 4
      BitVec.ofNat 5 id ++ BitVec.ofNat 3 state ++ BitVec.ofNat 4 r.mismatchCount ++ BitVec.ofBool r.lastEcho.isSome ++
        BitVec.ofNat 3 (min 7 r.failCount) ++ (r.lastEcho.map LastEcho.derate).getD 0 ++
        (r.lastEcho.map LastEcho.openFlags).getD 0 ++ (r.lastEcho.map LastEcho.shortFlags).getD 0
    reports (.querySummary tag [])
      (0 :: (natural (if s.scene.speedKnown = true then s.scene.speed else 65535) ++
        integer (if s.scene.yawValid = true then s.scene.yawRate else -32768) ++ integer s.scene.chassisPitch ++
        natural (if s.scene.accepted = true then age s.scene.lastTime else 65535) ++ [profile] ++
        integer s.shaper.prev ++ integer s.shaper.bendLeft ++ integer s.shaper.bendRight ++
        integer (s.shaper.pf.getD (-32768)) ++
        natural (if s.trackAccepted = true then age s.lastTrackTime else 65535))) ∧
    reports (.queryTargets tag [])
      (1 :: BitVec.ofNat 8 (s.slots.filter Option.isSome).length :: s.slots.zipIdx.flatMap fun p =>
        (p.1.map fun e => bigEndian 14 (entry p.2 e)).getD []) ∧
    reports (.queryNodes tag [])
      (3 :: (List.range 30).flatMap fun i => bigEndian 7 (node (i + 1) (s.nodes.getD i NodeRecord.rest))) ∧
    (∀ h, reports (.queryShadows tag [code h])
      (2 :: code h :: BitVec.ofNat 8 (s.head h).shadows.length ::
        (s.head h).shadows.flatMap fun w =>
          [BitVec.ofNat 8 w.first, BitVec.ofNat 8 w.last, BitVec.ofNat 8 w.bottom, BitVec.ofNat 8 w.top] ++
            natural w.residual)) ∧
    ∀ h (g : Byte), g.toNat ≤ 11 →
      reports (.queryLevels tag [code h, g])
        (4 :: code h :: g ::
          (List.range 16).flatMap fun k => natural ((s.head h).applied.getD (48 * (k / 4) + (4 * g.toNat + k % 4)) 0))

/-- QUERY FAULTS reports the number of records, the overflow flag and each record, its kind by its code, with a summary block
built before the emptying; then the list is empty and the flag clear. QUERY COUNTERS reports the thirteen counters in their
order and their flags, the first in the most significant bit; then every counter is 0 and every flag clear. Nothing else
changes (R181, R182, R183, R184). -/
def Obligations.FaultAndCounterQueriesReportThenClear : Prop :=
  ∀ (tag : Byte) (s : State), Ready s →
    let code : FaultKind → Byte := fun kind => match kind with
      | .calAbsent => 1
      | .calGroupDefaulted => 2
      | .sceneLost => 3
      | .trackLost => 4
      | .directAborted => 5
      | .nodeSilent => 6
      | .nodeIsolated => 7
      | .stringOpen => 8
      | .stringShort => 9
    let order : List CounterId :=
      [.linkCrcErrors, .linkFramesAbandoned, .queueFullDrops, .obsRefused, .obsTableFull, .evictions, .framesSkipped,
       .superseded .left, .superseded .right, .truncated .left, .truncated .right, .echoFailures .left, .echoFailures .right]
    exec (.queryFaults tag []) s =
      .next { s with
        faults := [], faultOverflow := false, handler := .transmitting,
        replyBuffer := some
          { type := 0x85, tag, startedAt := s.micros,
            payload := 0 :: (s.summary ++ 5 :: BitVec.ofNat 8 s.faults.length :: (if s.faultOverflow = true then 1 else 0) ::
              s.faults.flatMap fun r =>
                code r.kind :: BitVec.ofNat 8 r.subject ::
                  (bigEndian 4 r.firstTime ++ [BitVec.ofNat 8 r.occurrences])) } } ∧
    (CounterLaw s →
      ∃ flags : BitVec 16,
        (∀ i id, order[i]? = some id → flags.getMsbD i = (s.counter id).overflow) ∧
        (∀ i, 13 ≤ i → flags.getMsbD i = false) ∧
        exec (.queryCounters tag []) s =
          .next { s with
            counters := List.replicate 13 { count := 0, overflow := false }, handler := .transmitting,
            replyBuffer := some
              { type := 0x85, tag, startedAt := s.micros,
                payload := 0 :: (s.summary ++
                  6 :: ((order.flatMap fun id => bigEndian 2 (BitVec.ofNat 16 (s.counter id).count)) ++
                    bigEndian 2 flags)) } })

/-- CONFIG WRITE in STANDBY: of n values, those before the first out of range are written at successive indices with wrap, the
later value standing where two meet; the reply is OK with n, or BAD_FIELD with the number written; an unknown table or start
index writes nothing. Nothing but that table changes (R173, R179). -/
def Obligations.ConfigWriteStoresUpToTheFirstOutOfRange : Prop :=
  ∀ (tag table index : Byte) (values : List (Byte × Byte)) (s : State), Ready s → s.mode = .standby → CalibrationLaw s →
    1 ≤ values.length → values.length ≤ 64 →
    let payload := table :: index :: values.flatMap fun v => [v.1, v.2]
    let count := (tableSpec table.toNat).length
    let place := fun (j : Nat) => (index.toNat + j) % count
    let value := fun (j : Nat) =>
      let word := (values.getD j (0, 0)).1 ++ (values.getD j (0, 0)).2
      if table = 0 ∧ place j < 2 then word.toInt else (word.toNat : Int)
    let passes := fun (j : Nat) => match (tableSpec table.toNat)[place j]? with
      | some item => decide (item.lo ≤ value j ∧ value j ≤ item.hi)
      | none => false
    let written := ((List.range values.length).takeWhile passes).length
    (7 < table.toNat ∨ count ≤ index.toNat →
      ∃ t, exec (.configWrite tag payload) s = .next t ∧ Replied 6 tag .badField [0] t ∧ OnlyReplied s t) ∧
    (table.toNat ≤ 7 → index.toNat < count →
      ∃ t, exec (.configWrite tag payload) s = .next t ∧
        Replied 6 tag (if written = values.length then .ok else .badField) [BitVec.ofNat 8 written] t ∧
        (∀ i < count, t.item table.toNat i =
          match (List.range written).reverse.find? fun j => place j == i with
          | some j => value j
          | none => s.item table.toNat i) ∧
        (∀ k, k ≠ table.toNat → t.tables.getD k [] = s.tables.getD k []) ∧
        t = { s with tables := t.tables, replyBuffer := t.replyBuffer, handler := t.handler })

/-- CONFIG READ outside START reports count items from the start index on, with wrap, and changes nothing (R173, R180). -/
def Obligations.ConfigReadReportsItemsWithWrap : Prop :=
  ∀ (tag table index count : Byte) (s : State), Ready s → s.mode ≠ .start → table.toNat ≤ 7 →
    index.toNat < (tableSpec table.toNat).length → 1 ≤ count.toNat → count.toNat ≤ 64 →
      ∃ t, exec (.configRead tag [table, index, count]) s = .next t ∧
        Replied 7 tag .ok
          (table :: index :: count ::
            (List.range count.toNat).flatMap fun j =>
              bigEndian 2 (BitVec.ofInt 16
                (s.item table.toNat ((index.toNat + j) % (tableSpec table.toNat).length)))) t ∧
        OnlyReplied s t

/-! ## DIRECT LEVELS and NODE PASS -/

/-- DIRECT LEVELS in DIRECT replaces the sixteen levels of the group in the head's direct frame, each at most 1023, with
status CLAMPED if one was above; no other segment and no other state changes (R99). -/
def Obligations.DirectLevelsReplacesOneGroup : Prop :=
  ∀ (tag : Byte) (payload : List Byte) (h : Head) (s : State), Ready s → s.mode = .direct → payload.length = 34 →
    (byteAt payload 0).toNat = (match h with
      | .left => 0
      | .right => 1) → (byteAt payload 1).toNat ≤ 11 →
    let level := fun (k : Nat) => (byteAt payload (2 + 2 * k) ++ byteAt payload (3 + 2 * k)).toNat
    ∃ t, exec (.directLevels tag payload) s = .next t ∧
      Replied 8 tag (if (List.range 16).any (fun k => decide (1023 < level k)) = true then .clamped else .ok) [] t ∧
      (t.head h).direct.length = 192 ∧
      (∀ c r, c < 48 → r < 4 →
        levelAt (t.head h).direct c r =
          if c / 4 = (byteAt payload 1).toNat then min 1023 (level (4 * r + c % 4)) else levelAt (s.head h).direct c r) ∧
      t = { s.setHead h { s.head h with direct := (t.head h).direct } with
        replyBuffer := t.replyBuffer, handler := t.handler }

/-- NODE PASS in DIRECT: a node id in no range is answered NO_ROUTE and changes nothing else; otherwise the Request Handler
holds the request, and the pass-through is granted at once if the Link Sequencer is free, its service block starting on the
port of its node, and waits otherwise. A head is absent when its first and last node ids are both 0, its node count is last -
first + 1, and 0 when it is absent, and a node id is routed to a present head in whose range it lies (R10, R12, R13, R118,
R119, R125, R126, R163). -/
def Obligations.NodePassIsHandedToTheSequencer : Prop :=
  (∀ (tag node : Byte) (bytes : List Byte) (s : State), Ready s → s.mode = .direct → 1 ≤ bytes.length →
    bytes.length ≤ 20 →
    let request : LinkFrame := { type := 9, tag, payload := node :: bytes, receipt := s.timeBase }
    (s.routeOf node.toNat = none →
      ∃ t, exec (.nodePass tag (node :: bytes)) s = .next t ∧ Replied 9 tag .noRoute [] t ∧ OnlyReplied s t) ∧
    (∀ h, s.routeOf node.toNat = some h → s.grant = .none →
      exec (.nodePass tag (node :: bytes)) s =
        .next { s with
          handler := .serving request, grant := .pass, grantStart := some s.micros,
          passThrough := some { node := node.toNat, bytes, inFlight := true },
          exchange := some
            { port := h, node := node.toNat, content := .service bytes, startedAt := s.micros, phase := .sending } }) ∧
    (∀ h, s.routeOf node.toNat = some h → SequencerBusy s →
      exec (.nodePass tag (node :: bytes)) s =
        .next { s with
          handler := .serving request, passThrough := some { node := node.toNat, bytes, inFlight := false } })) ∧
  ∀ s : State,
    let first := fun (h : Head) => match h with
      | .left => s.item 0 2
      | .right => s.item 0 4
    let last := fun (h : Head) => match h with
      | .left => s.item 0 3
      | .right => s.item 0 5
    let absent := fun (h : Head) => first h = 0 ∧ last h = 0
    let holds := fun (h : Head) (id : Nat) => ¬ absent h ∧ first h ≤ (id : Int) ∧ (id : Int) ≤ last h
    (∀ h, (s.present h = true ↔ ¬ absent h) ∧ s.firstNode h = first h ∧ s.lastNode h = last h ∧
      (absent h → s.nodeCount h = 0) ∧ (¬ absent h → first h ≤ last h → (s.nodeCount h : Int) = last h - first h + 1)) ∧
    ∀ id : Nat,
      (∀ h, s.routeOf id = some h → holds h id) ∧ (∀ h, holds h id → ¬ holds h.other id → s.routeOf id = some h) ∧
        (s.routeOf id = none → ∀ h, ¬ holds h id)

/-! ## The frame path -/

/-- A frame start taken by an idle Composer: the table ages, the snapshots are taken, the Beam Shaper stage runs, and the
composition waits for its present heads, the oncoming-side head first; the phase moves on by one frame period (R38, R39, R71,
R74, R83, R84, R85, R86). The row carries time to the phase, here with no other moment before it (log 3). -/
def Obligations.FrameStartBeginsAComposition : Prop :=
  ∀ (s : State) (phase : Millis), s.framePhase = some phase → Undisturbed .frameStart s →
    s.mode = .active ∨ s.mode = .safe → s.composition = none →
    let aged := s.slots.map (ageSlot (s.item 2 2) (s.item 2 3) phase)
    let scene := s.scene.snapshot
    ∃ t, exec .frameStart s = .next t ∧ t.timeBase = phase ∧ s.micros ≤ t.micros ∧
      t = { s with
        micros := t.micros, framePhase := some (phase + millis (s.item 1 0)), slots := aged, shaper := shapedState s scene,
        composition := some
          { frameStart := phase,
            pattern := if s.mode = .active ∧ s.trackPending = false then .envelope else .safe,
            targets := aged, scene, results := shapedResults s scene,
            remaining := [s.oncoming, s.oncoming.other].filter s.present, shadowsLeft := [], shadowsRight := [] } }

/-- A frame start while a composition is in flight is dropped and counted; in DIRECT it stages the direct frame of each
present head, the oncoming-side head first, and each waits or is granted at once as `stageFrame` hands it; while the clock is
stopped there is none, and in START and STANDBY, where the clock never runs, only the phase moves on (log 7). The phase moves
on by one frame period (R5, R83, R84, R100, R102). The row carries time to the phase, here with no other moment before it (log
3). -/
def Obligations.FrameStartIsDroppedOrStagesDirectFrames : Prop :=
  ∀ s : State,
    (s.framePhase = none → exec .frameStart s = .next s) ∧
    ∀ phase, s.framePhase = some phase → Undisturbed .frameStart s →
      ∃ t micros, exec .frameStart s = .next t ∧ t.timeBase = phase ∧ s.micros ≤ micros ∧
        (let reached := { s with micros, framePhase := some (phase + millis (s.item 1 0)) }
         (s.mode = .active ∨ s.mode = .safe → s.composition ≠ none → t = countEvent .framesSkipped reached) ∧
         (s.mode = .direct →
           t = ((if s.trafficSideHigh = true then [Head.right, Head.left] else [Head.left, Head.right]).filter
             fun h => s.present h).foldl (fun u h => stageFrame h (s.head h).direct u) reached) ∧
         (s.mode = .start ∨ s.mode = .standby → t = reached)) ∧
        (s.mode = .direct →
          (∀ h, s.present h = true →
            (t.head h).staged = some { levels := (s.head h).direct, readyTime := phase } ∨
              (t.grant = .head h ∧ (t.head h).live = some (s.head h).direct)) ∧
          (∀ h, s.present h = false → (t.head h).staged = (s.head h).staged ∨ (t.head h).staged = none) ∧
          (∀ h, t.head h = { s.head h with staged := (t.head h).staged, live := (t.head h).live }))

/-- The end of a head stage: the new levels, under the shadow list of the entries in the ENVELOPE pattern and under the empty
list in the SAFE pattern, replace the head's applied levels and are handed to its staged slot by `stageFrame`, where they wait
or are granted at once; the head's list is kept in the composition, and with the last present head the lists of both heads are
stored together and the Composer is idle (R61, R62, R63, R86, R94, R102). That list and levels are computed at this moment is
the model's choice (log 12). Without a composition there is no stage, and a composition with no head left, which no run
reaches, completes (log 7). -/
def Obligations.HeadStageStoresAndStagesItsLevels : Prop :=
  ∀ s : State,
    let stored := fun (c : Composition) (u : State) =>
      { u with
        left := { u.left with shadows := c.shadowsLeft }, right := { u.right with shadows := c.shadowsRight },
        composition := none }
    (s.composition = none → exec .headStageComplete s = .next s) ∧
    (∀ c, s.composition = some c → c.remaining = [] → exec .headStageComplete s = .next (stored c s)) ∧
    ∀ c h rest, s.composition = some c → c.remaining = h :: rest →
      let windows := match c.pattern with
        | .envelope => shadowList s h c.frameStart c.targets
        | .safe => []
      let levels := composedLevels s c h windows
      let next := { c with
        remaining := rest, shadowsLeft := if h = .left then windows else c.shadowsLeft,
        shadowsRight := if h = .right then windows else c.shadowsRight }
      let staged :=
        stageFrame h levels { s.setHead h { s.head h with applied := levels } with composition := some next }
      ∃ t, exec .headStageComplete s = .next t ∧ (rest ≠ [] → t = staged) ∧ (rest = [] → t = stored next staged) ∧
        (t.head h).applied = levels ∧
        ((t.head h).staged = some { levels, readyTime := s.timeBase } ∨
          (t.grant = .head h ∧ (t.head h).live = some levels ∧ (t.head h).staged = none)) ∧
        (t.head h.other).applied = (s.head h.other).applied ∧
        (rest ≠ [] → t.composition = some next ∧ ∀ k, (t.head k).shadows = (s.head k).shadows) ∧
        (rest = [] → t.composition = none ∧ t.left.shadows = next.shadowsLeft ∧ t.right.shadows = next.shadowsRight) ∧
        (∀ k, t.head k = { s.head k with
          shadows := (t.head k).shadows, applied := (t.head k).applied, staged := (t.head k).staged,
          live := (t.head k).live }) ∧
        t = { s with
          left := t.left, right := t.right, composition := t.composition, grant := t.grant, grantStart := t.grantStart,
          progress := t.progress, exchange := t.exchange, passThrough := t.passThrough, counters := t.counters }

/-- The composed level of a segment is the ramp of its target: darkness at once, light by at most up_step. In the ENVELOPE
pattern the target is the smallest of the unshadowed envelope level, interpolated from the profile shifted by the head's bend,
and the residuals of the covering windows; in the SAFE pattern it is safe_level in row 0. Without the high-beam request, in a
row at the ceiling and in an undriven group it is 0 (R89, R90, R91, R93, R96). -/
def Obligations.ComposedLevelKeepsItsBounds : Prop :=
  ∀ (s : State) (c : Composition) (h : Head) (windows : List Window) (col r : Nat), col < 48 → r < 4 →
    let old := levelAt (s.head h).applied col r
    let target := segmentTarget s c h windows col r
    let new := levelAt (composedLevels s c h windows) col r
    let table := match c.results.profile with
      | .town => 4
      | .country => 5
      | .motorway => 6
    let position : Int := 16 * (col : Int) - (match h with
      | .left => c.results.bendLeft
      | .right => c.results.bendRight)
    let i := Int.fdiv position 16
    let f := position - 16 * i
    let column := fun (j : Int) => if 0 ≤ j ∧ j ≤ 47 then s.item table j.toNat else 0
    let envelope := Int.tdiv (column i * (16 - f) + column (i + 1) * f) 16
    let unshadowed := (Int.tdiv (envelope * s.item table (48 + r)) 256).toNat
    let driven := col / 4 < s.nodeCount h
    new = (if target ≤ old then target else min target (old + s.itemNat 7 8)) ∧
    (c.pattern = .envelope → c.results.highBeam = true → r ∉ c.results.darkRows → driven →
      target ≤ unshadowed ∧ (∀ w ∈ windows, w.covers col r = true → target ≤ w.residual) ∧
        (target = unshadowed ∨ ∃ w ∈ windows, w.covers col r = true ∧ target = w.residual)) ∧
    (c.pattern = .envelope → c.results.highBeam = false ∨ r ∈ c.results.darkRows ∨ ¬ driven → target = 0) ∧
    (c.pattern = .safe → r = 0 → c.scene.highBeam = true → driven → target = s.itemNat 0 6) ∧
    (c.pattern = .safe → r ≠ 0 ∨ c.scene.highBeam = false ∨ ¬ driven → target = 0)

/-- The shadow list of a head is ordered by first column, its windows do not overlap and stand at least bridge_cols columns
apart, and it holds at most as many windows as there were before merging, at most one per ACTIVE or COASTING entry (R60). It
comes of one pass over the windows sorted by first column, those of one column in slot order: they fall into runs, in which
each window stands less than bridge_cols columns behind one before it, and between which the gap is at least that; each run
gives the smallest rectangle that holds it, at its lowest residual (R47, R57, R58, R59). -/
def Obligations.ShadowListKeepsItsForm : Prop :=
  ∀ (s : State) (h : Head) (frameStart : Millis) (targets : List (Option Entry)),
    let windows := entryWindows s h frameStart targets
    let list := shadowList s h frameStart targets
    let gap := fun (u v : Window) => (v.first : Int) - (u.last : Int) - 1
    (0 ≤ s.item 2 9 → ShadowListForm (s.item 2 9) list) ∧ list.length ≤ windows.length ∧
    windows.length ≤ (targets.filter fun slot => slot.any fun e => decide (e.state ≠ .tentative)).length ∧
    (targets.length = 16 → list.length ≤ 16) ∧
    ∃ runs : List (List Window),
      runs.flatten.Pairwise (fun u v => u.first ≤ v.first) ∧
      (∀ c, runs.flatten.filter (fun w => w.first == c) = windows.filter (fun w => w.first == c)) ∧
      (∀ run ∈ runs, run ≠ [] ∧ ∀ before v after, run = before ++ v :: after → before ≠ [] →
        ∃ u ∈ before, gap u v < s.item 2 9) ∧
      (∀ (i : Nat) (run later : List Window) (v : Window), runs[i]? = some run → runs[i + 1]? = some (v :: later) →
        ∀ u ∈ run, s.item 2 9 ≤ gap u v) ∧
      list.length = runs.length ∧
      ∀ (i : Nat) (w : Window) (run : List Window), list[i]? = some w → runs[i]? = some run →
        (∀ v ∈ run, w.first ≤ v.first ∧ v.last ≤ w.last ∧ w.bottom ≤ v.bottom ∧ v.top ≤ w.top ∧ w.residual ≤ v.residual) ∧
        (∃ v ∈ run, v.first = w.first) ∧ (∃ v ∈ run, v.last = w.last) ∧ (∃ v ∈ run, v.bottom = w.bottom) ∧
        (∃ v ∈ run, v.top = w.top) ∧ ∃ v ∈ run, v.residual = w.residual

/-- The window of an entry stands between the edges of R53, which take in prediction, parallax, margin and lead. An entry
whose columns meet the matrix and whose elevation meets a row has one: it covers exactly the columns of the matrix between the
edges and the rows from the lowest to the highest met, at the residual of its tier. A range of columns off the matrix, or no
row met, yields none (R48 to R56; the parallax is that of R50's formula, log 16). -/
def Obligations.WindowCoversTheWholeEntry : Prop :=
  ∀ (s : State) (h : Head) (frameStart : Millis) (e : Entry),
    let tier := fun (i : Nat) => s.item 3 (6 + i + 4 * e.tier)
    let age : Int := min (ageOf frameStart e.obsTime : Int) (s.item 2 3)
    let shift := Int.tdiv (e.rate * age) 1000
    let offset := match h with
      | .left => s.item 0 0
      | .right => s.item 0 1
    let parallax := if e.range = 0 then 0 else roundDiv (offset * 11734) (64 * (e.range : Int))
    let growth := if e.state = .coasting then min (Int.tdiv (s.item 2 4 * (age - s.item 2 2)) 10) (s.item 2 5) else 0
    let margin := tier 0 + (if e.range = 0 then s.item 2 6 else 0) + growth
    let lead := if tier 3 = 1 then min (Int.tdiv ((e.rate.natAbs : Int) * s.item 2 7) 1000) (s.item 2 8) else 0
    let left := e.azL + shift - parallax - margin - (if e.rate < 0 then lead else 0)
    let right := e.azR + shift - parallax + margin + (if 0 < e.rate then lead else 0)
    let column := fun (a : Int) => Int.fdiv a 16 + 24
    let meets := fun (r : Nat) =>
      r < 4 ∧ 32 * (r : Int) - 16 ≤ e.elevT + tier 1 ∧ e.elevB - tier 1 ≤ 32 * (r : Int) + 15
    let onMatrix := column left ≤ 47 ∧ 0 ≤ column right
    (¬ onMatrix → windowOf s h frameStart e = none) ∧
    ((∀ r, ¬ meets r) → windowOf s h frameStart e = none) ∧
    (onMatrix → (∃ r, meets r) → (windowOf s h frameStart e).isSome = true) ∧
    (∀ bottom top, onMatrix → meets bottom → meets top → (∀ r, meets r → bottom ≤ r ∧ r ≤ top) →
      windowOf s h frameStart e = some
        { first := (max 0 (column left)).toNat, last := (min 47 (column right)).toNat, bottom, top,
          residual := (tier 2).toNat }) ∧
    ∀ w, windowOf s h frameStart e = some w →
      (w.first : Int) = max 0 (column left) ∧ (w.last : Int) = min 47 (column right) ∧
      meets w.bottom ∧ meets w.top ∧ (∀ r, meets r → w.bottom ≤ r ∧ r ≤ w.top) ∧
      w.top ≤ 3 ∧ w.bottom ≤ w.top ∧ (w.residual : Int) = max 0 (tier 2)

/-- No confirmed road user is dazzled: in an ENVELOPE composition every segment covered by the window of an ACTIVE or COASTING
entry of the snapshot is composed at no more than the residual of that entry's tier, however the windows are merged (R47, R58,
R59, R91, R93). -/
def Obligations.ConfirmedEntryIsHeldAtItsResidual : Prop :=
  ∀ (s : State) (c : Composition) (h : Head) (e : Entry) (w : Window) (col r : Nat),
    c.pattern = .envelope → some e ∈ c.targets → e.state ≠ .tentative → windowOf s h c.frameStart e = some w →
      col < 48 → r < 4 → w.covers col r = true →
        levelAt (composedLevels s c h (compositionShadows s c h)) col r ≤ s.itemNat 3 (8 + 4 * e.tier)

/-- The Beam Shaper stage: the bend target is that of R75, and the slewed bend moves toward it by at most bend_slew and stays
within bend_max; the inside head takes the bend and the outside head its share; the filtered pitch starts at the chassis pitch
and then moves toward it, never past it; a row is dark when its lower edge plus the filtered pitch reaches the ceiling (R74,
R75, R76, R77, R78, R79). -/
def Obligations.BeamShaperStageKeepsItsBounds : Prop :=
  ∀ (s : State) (n : SceneSnapshot), CalibrationLaw s → Within (s.item 7 3) s.shaper.prev →
    let new := shapedState s n
    let results := shapedResults s n
    let v : Int := n.speed
    let preview := clampTo (s.item 7 1) (s.item 7 2) (Int.tdiv (v * s.item 7 0) 3600)
    let target : Int :=
      if n.speedKnown = false ∨ n.yawValid = false ∨ n.speed < 50 then 0
      else Int.tdiv (576 * n.yawRate * preview) (1000 * v)
    (new.prev = s.shaper.prev +
      max (-s.item 7 4) (min (s.item 7 4) (max (-s.item 7 3) (min (s.item 7 3) target) - s.shaper.prev)) ∧
      Within (s.item 7 3) new.prev ∧ Within (s.item 7 4) (new.prev - s.shaper.prev)) ∧
    (0 ≤ new.prev → new.bendRight = new.prev ∧ new.bendLeft = Int.tdiv (new.prev * s.item 7 5) 256) ∧
    (new.prev ≤ 0 → new.bendLeft = new.prev ∧ new.bendRight = Int.tdiv (new.prev * s.item 7 5) 256) ∧
    (s.shaper.pf = none → new.pf = some n.chassisPitch) ∧
    (∀ pf, s.shaper.pf = some pf → ∃ pf', new.pf = some pf' ∧ pf' = pf + Int.tdiv ((n.chassisPitch - pf) * s.item 7 6) 256 ∧
      min pf n.chassisPitch ≤ pf' ∧ pf' ≤ max pf n.chassisPitch) ∧
    results.bendLeft = new.bendLeft ∧ results.bendRight = new.bendRight ∧ results.highBeam = n.highBeam ∧
    ∀ pf, new.pf = some pf → ∀ r : Nat, r ∈ results.darkRows ↔ r < 4 ∧ s.item 7 7 ≤ 32 * (r : Int) - 16 + pf

/-- Profile selection: the first without hysteresis, COUNTRY while the speed is unknown; every later one by the table of R81,
unchanged under any other speed and while the speed is unknown. It is stored and used by the composition (R80, R81). -/
def Obligations.ProfileSelectionFollowsTheTable : Prop :=
  ∀ (s : State) (n : SceneSnapshot),
    let v : Int := n.speed
    let t1 := s.item 7 9
    let t2 := s.item 7 10
    let h := s.item 7 11
    let new := (shapedResults s n).profile
    (shapedState s n).profile = some new ∧
    (s.shaper.profile = none →
      (n.speedKnown = false → new = .country) ∧ (n.speedKnown = true → v < t1 → new = .town) ∧
      (n.speedKnown = true → t1 ≤ v → v < t2 → new = .country) ∧
      (n.speedKnown = true → t1 ≤ v → t2 ≤ v → new = .motorway)) ∧
    (∀ p, s.shaper.profile = some p → n.speedKnown = false → new = p) ∧
    (n.speedKnown = true → t1 + h < t2 - h → 0 ≤ h →
      (s.shaper.profile = some .town →
        (t2 + h ≤ v → new = .motorway) ∧ (t1 + h ≤ v → v < t2 + h → new = .country) ∧ (v < t1 + h → new = .town)) ∧
      (s.shaper.profile = some .country →
        (t2 + h ≤ v → new = .motorway) ∧ (v < t1 - h → new = .town) ∧ (t1 - h ≤ v → v < t2 + h → new = .country)) ∧
      (s.shaper.profile = some .motorway →
        (v < t1 - h → new = .town) ∧ (t1 - h ≤ v → v < t2 - h → new = .country) ∧ (t2 - h ≤ v → new = .motorway)))

/-! ## The Link Sequencer and the lamp ports -/

/-- A frame handed to a staged slot fills it with the time of handing, or replaces and counts the older frame; a busy Link
Sequencer leaves it waiting, and a free one arbitrates at once. An arbitration grants the pass-through if it is waiting;
otherwise the head with the earlier ready time, and on a tie the oncoming-side head. The grant of a head moves its staged
frame to the live slot and starts its transfer at the group of its send cursor, with zeros for an ISOLATED node (R102, R103,
R118, R119, R120, R121; "earlier" is log 14's reading). -/
def Obligations.HandedFramesWaitAndAreGrantedInOrder : Prop :=
  ∀ s : State,
    let granted := fun (h : Head) => ∃ f, (s.head h).staged = some f ∧
      let g := (s.head h).cursor % s.nodeCount h
      let node := (s.firstNode h).toNat + g
      arbitrate s =
        { s.setHead h { s.head h with staged := none, live := some f.levels } with
          grant := .head h, grantStart := some s.micros, progress := 0,
          exchange := some
            { port := h, node, startedAt := s.micros, phase := .sending,
              content := .levels
                (if (s.node node).state = .isolated then List.replicate 16 0
                 else (List.range 16).map fun k => levelAt f.levels (4 * g + k % 4) (k / 4)) } }
    let filled := fun (h : Head) (levels : List Nat) (u : State) =>
      u.setHead h { s.head h with staged := some { levels, readyTime := s.timeBase } }
    let arrived := fun (u : State) => if s.grant = .none then arbitrate u else u
    requestArrived s = arrived s ∧
    (∀ h levels,
      ((s.head h).staged = none → stageFrame h levels s = arrived (filled h levels s)) ∧
      ((s.head h).staged ≠ none → stageFrame h levels s = arrived (filled h levels (countEvent (.superseded h) s)))) ∧
    (∀ p, s.passThrough = some p → p.inFlight = false →
      (arbitrate s).grant = .pass ∧ (arbitrate s).passThrough = some { p with inFlight := true } ∧
        ∀ h, s.routeOf p.node = some h →
          arbitrate s =
            { s with
              grant := .pass, grantStart := some s.micros, passThrough := some { p with inFlight := true },
              exchange := some
                { port := h, node := p.node, content := .service p.bytes, startedAt := s.micros, phase := .sending } }) ∧
    (s.passThrough = none →
      (∀ h, (s.head h).staged ≠ none → (s.head h.other).staged = none → granted h) ∧
      (∀ h f f', (s.head h).staged = some f → (s.head h.other).staged = some f' →
        ageOf s.timeBase f'.readyTime < ageOf s.timeBase f.readyTime → granted h) ∧
      (∀ f f', s.left.staged = some f → s.right.staged = some f' → f.readyTime = f'.readyTime →
        granted (if s.trafficSideHigh = true then .right else .left)) ∧
      (s.left.staged = none → s.right.staged = none → arbitrate s = s))

/-- The moments of an exchange. BLOCK_SENT: the block has gone out, 5 µs a byte, a levels block of 24 bytes and a service
block of n + 5, and the echo is awaited. No start byte by echo_timeout, 20 µs of silence inside or after a failed echo, which
no byte coming in breaks, and echo_timeout + 750 µs in all each complete the exchange as failed (R109, R110, R115, R116). That
the rows carry time to their moments, here with no other moment before it, is the model's (log 3), and so are that the block
itself finds the silence (log 11), that the hard limit counts while the start byte is awaited, where the echo start timeout
always comes before it (log 18), and that a moment whose cause is absent changes nothing (log 7). -/
def Obligations.ExchangeMomentsMoveTheExchange : Prop :=
  ∀ s : State,
    ((∀ x, s.exchange = some x → x.phase ≠ .sending) → exec .blockSent s = .next s) ∧
    ∀ x, s.exchange = some x →
      let fails := fun (c : Instr) (moment : Nat) =>
        Undisturbed c s → exec c s = .next (completeExchange x .failed { s with micros := max s.micros moment })
      (x.phase = .sending → Undisturbed .blockSent s →
        ∃ t, exec .blockSent s = .next t ∧
          t.micros = max s.micros (x.startedAt + 5 * (match x.content with
            | .levels _ => 24
            | .service bytes => bytes.length + 5)) ∧
          t = { s with micros := t.micros, exchange := some { x with phase := .awaiting t.micros } }) ∧
      (∀ ended, x.phase = .awaiting ended →
        fails .echoStartTimeout (ended + s.itemNat 1 3) ∧ fails .echoHardLimit (ended + s.itemNat 1 3 + 750) ∧
          exec .echoSilenceTimeout s = .next s) ∧
      ∀ ended bytes silentSince, x.phase = .receiving ended bytes silentSince ∨ x.phase = .failed ended silentSince →
        (∀ t, silentSince = some t → fails .echoSilenceTimeout (t + 20)) ∧
          (silentSince = none → exec .echoSilenceTimeout s = .next s) ∧
          fails .echoHardLimit (ended + s.itemNat 1 3 + 750) ∧ exec .echoStartTimeout s = .next s

/-- A byte on an echo-in line: discarded on a port with no exchange, before the block has been sent, and while the start byte
is awaited unless it is 0xE2 with a good stop bit; after the start byte a low stop bit, a kind byte that is neither 1 nor 2
and a service length of 0 or above 20 fail the echo; any other byte before the echo's last joins the bytes received, and
silence is measured from it; after a failed echo a byte only prolongs the wait for silence (R109, R111, R114, R115, R116). The
start bit of a byte, which comes as a command of the same row (log 11), ends a silence inside or after an echo on its port and
does nothing else. -/
def Obligations.EchoByteIsDiscardedTakenOrFailsTheEcho : Prop :=
  ∀ (port : Head) (b : Byte) (stopLow : Bool) (s : State),
    let arrives := fun (t : State) => exec (.echoByteReceived port (.byte b) stopLow) s = .next t
    let begins := fun (t : State) => exec (.echoByteReceived port .startBit stopLow) s = .next t
    (s.exchange = none → arrives s ∧ begins s) ∧
    ∀ x, s.exchange = some x →
      (x.port ≠ port → arrives s ∧ begins s) ∧ (x.phase = .sending → arrives s ∧ begins s) ∧
      (∀ ended, x.port = port → x.phase = .awaiting ended →
        begins s ∧
        (b = 0xE2 → stopLow = false →
          arrives { s with exchange := some { x with phase := .receiving ended [b] (some s.micros) } }) ∧
        (b ≠ 0xE2 ∨ stopLow = true → arrives s)) ∧
      (∀ ended bytes silentSince, x.port = port → x.phase = .receiving ended bytes silentSince →
        let failed := { s with exchange := some { x with phase := .failed ended (some s.micros) } }
        begins { s with exchange := some { x with phase := .receiving ended bytes none } } ∧
        (stopLow = true → arrives failed) ∧
        (stopLow = false → bytes.length = 1 → b ≠ 1 → b ≠ 2 → arrives failed) ∧
        (stopLow = false → bytes.length = 3 → byteAt bytes 1 = 2 → b = 0 ∨ 20 < b.toNat → arrives failed) ∧
        (let inside :=
           (bytes.length = 1 ∧ (b = 1 ∨ b = 2)) ∨
           (byteAt bytes 1 = 1 ∧ 2 ≤ bytes.length ∧ bytes.length + 1 < 29) ∨
           (byteAt bytes 1 = 2 ∧ bytes.length = 2) ∨
           (byteAt bytes 1 = 2 ∧ bytes.length = 3 ∧ 1 ≤ b.toNat ∧ b.toNat ≤ 20) ∨
           (byteAt bytes 1 = 2 ∧ 4 ≤ bytes.length ∧ 1 ≤ (byteAt bytes 3).toNat ∧ (byteAt bytes 3).toNat ≤ 20 ∧
             bytes.length + 1 < (byteAt bytes 3).toNat + 5)
         stopLow = false → inside →
           arrives { s with exchange := some { x with phase := .receiving ended (bytes ++ [b]) (some s.micros) } })) ∧
      ∀ ended silentSince, x.port = port → x.phase = .failed ended silentSince →
        begins { s with exchange := some { x with phase := .failed ended none } } ∧
        arrives { s with exchange := some { x with phase := .failed ended (some s.micros) } }

/-- The bytes of a block, the levels as one string of 160 bits, ten for each channel, most significant first (R110); the CRC-8
over them, from 0xFF by eight steps a byte of the polynomial 0x1D (R112). The last byte of an echo: a levels echo with the
block's kind and node and a correct CRC-8 completes the exchange with its levels, flags and derate; a service echo with its
bytes; an echo with a wrong kind, node or CRC-8 fails (R111, R112, R116, R117). -/
def Obligations.LastByteOfAnEchoIsJudged : Prop :=
  let packs := fun (packed : List Byte) (levels : List Nat) =>
    packed.length = 20 ∧
      ∀ i < 160, (byteAt packed (i / 8)).getMsbD (i % 8) = (BitVec.ofNat 10 (levels.getD (i / 10) 0)).getMsbD (i % 10)
  (crc8 [] = 0xFF ∧
    ∀ (bytes : List Byte) (b : Byte), crc8 (bytes ++ [b]) =
      (List.range 8).foldl (fun (r : Byte) _ => if r.getMsbD 0 = true then (r <<< 1) ^^^ 0x1D else r <<< 1)
        (crc8 bytes ^^^ b)) ∧
  (∀ (node : Nat) (levels : List Nat), levels.length = 16 →
    ∃ packed, packs packed levels ∧
      let body := 1 :: BitVec.ofNat 8 node :: packed
      blockBytes node (.levels levels) = 0xE1 :: (body ++ [crc8 body])) ∧
  (∀ (node : Nat) (bytes : List Byte),
    let body := 2 :: BitVec.ofNat 8 node :: BitVec.ofNat 8 bytes.length :: bytes
    blockBytes node (.service bytes) = 0xE1 :: (body ++ [crc8 body])) ∧
  ∀ (s : State) (x : Exchange) (ended : Nat) (silentSince : Option Nat) (bytes : List Byte) (b : Byte),
    s.exchange = some x → x.phase = .receiving ended bytes silentSince →
    (∀ sent echoed packed derate openFlags shortFlags,
      let body := 1 :: BitVec.ofNat 8 x.node :: (packed ++ bigEndian 2 openFlags ++ bigEndian 2 shortFlags ++ [derate])
      x.content = .levels sent → echoed.length = 16 → (∀ level ∈ echoed, level ≤ 1023) → packs packed echoed →
        bytes ++ [b] = 0xE2 :: (body ++ [crc8 body]) →
          exec (.echoReceived x.port b) s =
            .next (completeExchange x (.goodLevels sent echoed { derate, openFlags, shortFlags }) s)) ∧
    (∀ sent echoed,
      let body := 2 :: BitVec.ofNat 8 x.node :: BitVec.ofNat 8 echoed.length :: echoed
      x.content = .service sent → 1 ≤ echoed.length → echoed.length ≤ 20 →
        bytes ++ [b] = 0xE2 :: (body ++ [crc8 body]) →
          exec (.echoReceived x.port b) s = .next (completeExchange x (.goodService echoed) s)) ∧
    (let echo := bytes ++ [b]
     let complete := (byteAt echo 1 = 1 ∧ echo.length = 29) ∨
       (byteAt echo 1 = 2 ∧ 1 ≤ (byteAt echo 3).toNat ∧ (byteAt echo 3).toNat ≤ 20 ∧
         echo.length = (byteAt echo 3).toNat + 5)
     let kind : Byte := match x.content with
       | .levels _ => 1
       | .service _ => 2
     complete → byteAt echo 1 ≠ kind ∨ byteAt echo 2 ≠ BitVec.ofNat 8 x.node ∨ crc8 echo.tail.dropLast ≠ b →
       exec (.echoReceived x.port b) s =
         .next { s with exchange := some { x with phase := .failed ended (some s.micros) } })

/-- The completion of an exchange hands its outcome to the Node Supervisor, counts a failure, and then: a transfer with its
last group done ends, one past its hold budget with another requester waiting is truncated, counted and leaves the cursor at
the next unsent group, any other sends its next group; a pass-through is answered. At the end of a grant the Link Sequencer
arbitrates (R117, R120, R121, R122, R123, R124, R126). That progress and grant start keep their values after the grant is log
17's. -/
def Obligations.CompletedExchangeMovesItsGrantOn : Prop :=
  ∀ (x : Exchange) (o : ExchangeOutcome) (s : State),
    let judged := nodeOutcome x.node o { s with exchange := none }
    let counted := if o = .failed then countEvent (.echoFailures x.port) judged else judged
    (∀ h, s.grant = .head h →
      let n := s.nodeCount h
      let done := s.progress + 1
      let moved := { counted with progress := done }
      let dropped := fun (cursor : Nat) => moved.setHead h { s.head h with live := none, cursor }
      let next := ((s.head h).cursor + done) % n
      let spent := s.itemNat 1 4 ≤ s.micros - s.grantStart.getD s.micros
      let waiting := (s.head h.other).staged ≠ none ∨ ∃ p, s.passThrough = some p ∧ p.inFlight = false
      (n ≤ done → completeExchange x o s = arbitrate { dropped (s.head h).cursor with grant := .none }) ∧
      (done < n → spent ∧ waiting →
        completeExchange x o s = arbitrate { countEvent (.truncated h) (dropped next) with grant := .none }) ∧
      (done < n → ¬ (spent ∧ waiting) →
        completeExchange x o s =
          { moved with
            exchange := some
              { port := h, node := (s.firstNode h).toNat + next, startedAt := s.micros, phase := .sending,
                content := .levels
                  (if (moved.node ((s.firstNode h).toNat + next)).state = .isolated then List.replicate 16 0
                   else (List.range 16).map fun k =>
                     levelAt ((s.head h).live.getD []) (4 * next + k % 4) (k / 4)) } })) ∧
    (s.grant = .pass → ∀ f, s.handler = .serving f →
      let freed := { counted with grant := .none, passThrough := none }
      (∀ bytes, o = .goodService bytes →
        completeExchange x o s = arbitrate (answer f .ok (BitVec.ofNat 8 bytes.length :: bytes) freed)) ∧
      (o = .failed → completeExchange x o s = arbitrate (answer f .nodeTimeout [] freed)))

/-- A node record takes an outcome by the table of chapter 7: a matching levels echo makes it OK; a mismatch counts, and makes
it SUSPECT, or ISOLATED at mismatch_limit; a failure counts, and makes it SILENT at silent_limit; a service echo clears the
failures; an ISOLATED record is not changed. No other record changes, and the faults are latched in the order of R138 (R132,
R133, R134, R135, R136, R137, R138). -/
def Obligations.NodeRecordFollowsItsOutcomes : Prop :=
  ∀ (id : Nat) (o : ExchangeOutcome) (s : State), s.nodes.length = 30 → 1 ≤ id → id ≤ 30 →
    let r := s.node id
    let t := nodeOutcome id o s
    let kept := fun (r' : NodeRecord) (faulty : State) => t = { faulty with nodes := s.nodes.set (id - 1) r' }
    let flagged := fun (e : LastEcho) =>
      let opened := if e.openFlags ≠ 0 then latchFault .stringOpen id s.timeBase s else s
      if e.shortFlags ≠ 0 then latchFault .stringShort id s.timeBase opened else opened
    (r.state = .isolated → t = s) ∧
    (r.state ≠ .isolated →
      (∀ sent echoed e, o = .goodLevels sent echoed e →
        let expected := fun (k : Nat) => sent.getD k 0 * (e.derate.toNat + 1) / 256
        let mismatch := ∃ k, k < 16 ∧
          (expected k + s.itemNat 1 5 < echoed.getD k 0 ∨ echoed.getD k 0 + s.itemNat 1 5 < expected k)
        (¬ mismatch → kept { state := .ok, mismatchCount := 0, failCount := 0, lastEcho := some e } (flagged e)) ∧
        (mismatch → r.mismatchCount + 1 < s.itemNat 1 6 →
          kept { state := .suspect, mismatchCount := r.mismatchCount + 1, failCount := 0, lastEcho := some e } (flagged e)) ∧
        (mismatch → s.itemNat 1 6 ≤ r.mismatchCount + 1 →
          kept { state := .isolated, mismatchCount := r.mismatchCount + 1, failCount := 0, lastEcho := some e }
            (latchFault .nodeIsolated id s.timeBase (flagged e)))) ∧
      (∀ bytes, o = .goodService bytes →
        (r.state = .unseen ∨ (r.state = .silent ∧ r.mismatchCount = 0) → kept { r with state := .ok, failCount := 0 } s) ∧
        (r.state = .silent → r.mismatchCount ≠ 0 → kept { r with state := .suspect, failCount := 0 } s) ∧
        (r.state = .ok ∨ r.state = .suspect → kept { r with failCount := 0 } s)) ∧
      (o = .failed →
        let failures := min 255 (r.failCount + 1)
        (failures < s.itemNat 1 7 → kept { r with failCount := failures } s) ∧
        (s.itemNat 1 7 ≤ failures → r.state ≠ .silent →
          kept { r with state := .silent, failCount := failures } (latchFault .nodeSilent id s.timeBase s)) ∧
        (s.itemNat 1 7 ≤ failures → r.state = .silent → kept { r with failCount := failures } s)))

/-! ## Faults and counters -/

/-- A latched fault raises the occurrences of its record, saturating at 255, or is appended while fewer than 24 records are
held, or sets the overflow flag; an event raises its counter, which stays at 65535 and sets its flag there (R181, R183). -/
def Obligations.FaultsAndCountersRecordEvents : Prop :=
  (∀ (kind : FaultKind) (subject : Nat) (now : Millis) (s : State),
    let known := ∃ r ∈ s.faults, r.kind = kind ∧ r.subject = subject
    (known →
      latchFault kind subject now s =
        { s with faults := s.faults.map fun r =>
            if r.kind = kind ∧ r.subject = subject then { r with occurrences := min 255 (r.occurrences + 1) } else r }) ∧
    (¬ known → s.faults.length < 24 →
      latchFault kind subject now s =
        { s with faults := s.faults ++ [{ kind, subject, firstTime := now, occurrences := 1 }] }) ∧
    (¬ known → 24 ≤ s.faults.length → latchFault kind subject now s = { s with faultOverflow := true })) ∧
  ∀ (id : CounterId) (s : State), CounterLaw s →
    (countEvent id s).counter id =
      (if (s.counter id).count < 65535 then { s.counter id with count := (s.counter id).count + 1 }
       else { s.counter id with overflow := true }) ∧
    (∀ other, other ≠ id → (countEvent id s).counter other = s.counter other) ∧
    countEvent id s = { s with counters := (countEvent id s).counters }

/-! ## Laws that every step keeps -/

/-- Every law below holds in the state after reset. -/
def Obligations.LawsHoldAfterReset : Prop :=
  TargetTableLaw State.reset ∧ CalibrationLaw State.reset ∧ LevelLaw State.reset ∧ FaultListLaw State.reset ∧
    CounterLaw State.reset ∧ HandlerLaw State.reset ∧ SequencerLaw State.reset ∧ IsolationLaw State.reset ∧
    ModeLaw State.reset ∧ RestLaw State.reset ∧ DirectSpeedLaw State.reset ∧ SceneLaw State.reset ∧
    ShaperLaw State.reset ∧ ShadowCountLaw State.reset ∧ ReplySizeLaw State.reset ∧ PunctualLaw State.reset ∧
    EntryLaw State.reset ∧ NodeLaw State.reset ∧ CursorLaw State.reset

/-- The table keeps sixteen slots and no two entries with the same id (R18), and every entry, in the table and in a snapshot,
keeps each of its fields in its range (R19). -/
def Obligations.StepKeepsTheTargetTableLaw : Prop :=
  (∀ s t : State, TargetTableLaw s → step s = .next t → TargetTableLaw t) ∧
  ∀ s t : State, CalibrationLaw s → EntryLaw s → step s = .next t → EntryLaw t

/-- The store never holds an item outside its range, and no level that the block holds or sends leaves 0..1023 (R14, R175). -/
def Obligations.StepKeepsCalibrationAndLevels : Prop :=
  ∀ s t : State, CalibrationLaw s → LevelLaw s → step s = .next t → CalibrationLaw t ∧ LevelLaw t

/-- The fault list keeps at most 24 records, no two of one kind and subject, and every counter stays in 0..65535 (R181, R183).
-/
def Obligations.StepKeepsFaultsAndCounters : Prop :=
  ∀ s t : State, FaultListLaw s → CounterLaw s → step s = .next t → FaultListLaw t ∧ CounterLaw t

/-- The Request Handler, the queue, the reply buffer, the grant, the exchange, the live slots and the pass-through stay in
step with one another, and a levels block to an ISOLATED node carries only zeros (R103, R113, R114, R118, R121, R125, R136,
R162, R163). There are thirty node records with their counts in range, the mismatches below mismatch_limit in every state but
ISOLATED, and the send cursor of a present head stays below its node count while frames are sent (R113, R123, R129, R133). -/
def Obligations.StepKeepsHandlerAndSequencer : Prop :=
  (∀ s t : State, HandlerLaw s → SequencerLaw s → IsolationLaw s → step s = .next t →
    HandlerLaw t ∧ SequencerLaw t ∧ IsolationLaw t) ∧
  (∀ s t : State, CalibrationLaw s → RestLaw s → NodeLaw s → step s = .next t → NodeLaw t) ∧
  ∀ s t : State, RestLaw s → CursorLaw s → step s = .next t → CursorLaw t

/-- The flags, timers, frame clock and autoload run in their modes alone, and DIRECT lasts only while the speed is known and
at most direct_speed_max + 20 (R83, R141, R142, R147, R153, R155). No moment of the block's own is ever passed over: a timer
expires when the time base equals its deadline, the frame clock strikes at its phase, the autoload ends by 500 ms, a frame is
abandoned and an exchange fails when their silence or limit is reached, and a reply and a block end in their time (R83, R109,
R115, R147, R160, R166, R177; how time passes is the model's choice, logs 1 and 3). -/
def Obligations.StepKeepsTheModeLaws : Prop :=
  (∀ s t : State, ModeLaw s → DirectSpeedLaw s → step s = .next t → ModeLaw t ∧ DirectSpeedLaw t) ∧
  ∀ s t : State, CalibrationLaw s → RestLaw s → PunctualLaw s → step s = .next t → PunctualLaw t

/-- In START and STANDBY everything on the lamp side is at rest and dark, and the HOLD lines are asserted (R41, R65, R72, R92,
R105, R107, R113, R139, R144). -/
def Obligations.StepKeepsTheLampsDarkAtRest : Prop :=
  ∀ s t : State, RestLaw s → step s = .next t → RestLaw t

/-- The scene record and the Beam Shaper stay within their ranges (R67, R72, R76, R78). -/
def Obligations.StepKeepsSceneAndShaperInRange : Prop :=
  ∀ s t : State, CalibrationLaw s → RestLaw s → SceneLaw s → ShaperLaw s → step s = .next t → SceneLaw t ∧ ShaperLaw t

/-- Every reply fits the frame: its payload is at most 240 bytes (R165). -/
def Obligations.StepKeepsRepliesWithinTheFrame : Prop :=
  ∀ s t : State, TargetTableLaw s → FaultListLaw s → CounterLaw s → ShadowCountLaw s → ReplySizeLaw s →
    step s = .next t → ShadowCountLaw t ∧ ReplySizeLaw t

end
end

