-- ==== Sys2Proof/Laws/Bits.lean ====
section
/-! SUPPORT. Bit strings and their bytes: what `bitsOfNat`, `bitsOfInt`, `natOfBits` and `packBits` make of a bit vector. -/

namespace Sys2Proof.Machine

/-- The bits of a bit string, most significant first. -/
def bitsOf (v : BitVec w) : List Bool := (List.range w).map v.getMsbD

theorem length_bitsOf (v : BitVec w) : (bitsOf v).length = w := by simp [bitsOf]

theorem getElem?_bitsOf (v : BitVec w) (i : Nat) : (bitsOf v)[i]? = if i < w then some (v.getMsbD i) else none := by
  unfold bitsOf
  rw [List.getElem?_map]
  split
  · rename_i h; rw [List.getElem?_range h]; rfl
  · rename_i h; rw [List.getElem?_eq_none (by simpa using h)]; rfl

/-- The bits of two strings put together are those of the first, then those of the second. -/
theorem bitsOf_append (a : BitVec v) (b : BitVec w) : bitsOf (a ++ b) = bitsOf a ++ bitsOf b := by
  apply List.ext_getElem?
  intro i
  rw [getElem?_bitsOf, List.getElem?_append, length_bitsOf, getElem?_bitsOf, getElem?_bitsOf, BitVec.getMsbD_append]
  by_cases h : i < v
  · simp only [h, Nat.lt_of_lt_of_le h (Nat.le_add_right v w), Nat.not_le.mpr h, if_true, if_false]
  · have : v ≤ i := by omega
    simp only [h, if_false, this, if_true]
    by_cases k : i < v + w
    · rw [if_pos k, if_pos (by omega)]
    · rw [if_neg k, if_neg (by omega)]

/-- The `width` low bits of a number are those of its bit string of that width. -/
theorem bitsOfNat_eq (w n : Nat) : bitsOfNat w n = bitsOf (BitVec.ofNat w n) := by
  have : ∀ k, k ≤ w → bitsOfNat k n = (bitsOf (BitVec.ofNat w n)).drop (w - k) := by
    intro k
    induction k with
    | zero => intro _; simp [bitsOfNat, bitsOf]
    | succ k ih =>
      intro h
      rw [bitsOfNat, ih (by omega)]
      have l : w - (k+1) < (bitsOf (BitVec.ofNat w n)).length := by rw [length_bitsOf]; omega
      rw [List.drop_eq_getElem_cons l]
      congr 1
      · apply Option.some.inj
        rw [← List.getElem?_eq_getElem, getElem?_bitsOf, if_pos (by omega), BitVec.getMsbD_eq_getLsbD]
        congr 1
        have e : w - 1 - (w - (k+1)) = k := by omega
        rw [e]
        rw [BitVec.getLsbD_ofNat]; simp [show w - (k+1) < w by omega, show k < w by omega]
      · congr 1; omega
  have := this w (Nat.le_refl _)
  simpa using this

theorem natOfBits_append (a b : List Bool) : natOfBits (a ++ b) = natOfBits a * 2 ^ b.length + natOfBits b := by
  unfold natOfBits
  rw [List.foldl_append]
  have : ∀ (b : List Bool) (x : Nat),
      b.foldl (fun n b => 2 * n + b.toNat) x = x * 2 ^ b.length + b.foldl (fun n b => 2 * n + b.toNat) 0 := by
    intro b
    induction b with
    | nil => intro x; simp
    | cons c b ih =>
      intro x
      simp only [List.foldl_cons, List.length_cons]
      rw [ih (2 * x + c.toNat), ih (2 * 0 + c.toNat)]
      rw [Nat.pow_succ, Nat.add_mul]
      simp only [Nat.mul_zero, Nat.zero_add]
      rw [← Nat.add_assoc]
      congr 2
      rw [Nat.mul_comm 2 x, Nat.mul_assoc, Nat.mul_comm 2]
  exact this b _

/-- A number comes back from its bits, modulo their number. -/
theorem natOfBits_bitsOfNat (w n : Nat) : natOfBits (bitsOfNat w n) = n % 2 ^ w := by
  induction w with
  | zero => simp [bitsOfNat, natOfBits, Nat.mod_one]
  | succ w ih =>
    have : bitsOfNat (w+1) n = [n.testBit w] ++ bitsOfNat w n := rfl
    rw [this, natOfBits_append, ih]
    have l : (bitsOfNat w n).length = w := by rw [bitsOfNat_eq, length_bitsOf]
    rw [l]
    simp only [natOfBits, List.foldl_cons, List.foldl_nil, Nat.mul_zero, Nat.zero_add]
    rw [Nat.pow_succ, Nat.mod_mul, Nat.testBit_eq_decide_div_mod_eq, Nat.add_comm]
    congr 1
    have : n / 2 ^ w % 2 = 0 ∨ n / 2 ^ w % 2 = 1 := by omega
    rcases this with h | h <;> simp [h]

/-- A bit string cut into bytes is its bytes, the most significant first. -/
theorem packBits_bitsOf (n : Nat) (v : BitVec w) (h : w = 8 * n) : packBits n (bitsOf v) = bigEndian n v := by
  induction n generalizing w with
  | zero => rfl
  | succ n ih =>
    subst h
    have split : bitsOf v = bitsOf (v.extractLsb' (8 * n) 8) ++ bitsOf (v.extractLsb' 0 (8 * n)) := by
      apply List.ext_getElem?
      intro i
      rw [getElem?_bitsOf, List.getElem?_append, length_bitsOf, getElem?_bitsOf, getElem?_bitsOf]
      simp only [BitVec.getMsbD_eq_getLsbD, BitVec.getLsbD_extractLsb']
      by_cases a : i < 8
      · rw [if_pos a, if_pos a, if_pos (by omega)]
        have : 8 * (n + 1) - 1 - i = 8 * n + (8 - 1 - i) := by omega
        rw [this]
        simp [a, show i < 8 * (n + 1) by omega, show 7 - i < 8 by omega]
      · rw [if_neg a]
        by_cases b : i < 8 * (n + 1)
        · rw [if_pos b, if_pos (by omega)]
          have : 8 * (n + 1) - 1 - i = 0 + (8 * n - 1 - (i - 8)) := by omega
          rw [this]
          simp [b, show i - 8 < 8 * n by omega, show 8 * n - 1 - (i - 8) < 8 * n by omega]
        · rw [if_neg b, if_neg (by omega)]
    rw [split, packBits]
    have e : ∀ b : BitVec 8, natOfBits (bitsOf b) = b.toNat := by
      intro b
      have := natOfBits_bitsOfNat 8 b.toNat
      rw [bitsOfNat_eq] at this
      simp only [BitVec.ofNat_toNat, BitVec.setWidth_eq] at this
      rw [this]; have := b.isLt; omega
    rw [List.take_left' (length_bitsOf _), List.drop_left' (length_bitsOf _), e, ih _ rfl]
    unfold bigEndian byteOf
    rw [List.range_succ_eq_map, List.map_cons, List.map_map]
    congr 1
    · exact by rw [BitVec.ofNat_toNat, BitVec.setWidth_eq]; simp
    · apply List.map_congr_left
      intro k hk
      have hk := List.mem_range.1 hk
      simp only [Function.comp]
      apply BitVec.eq_of_getLsbD_eq
      intro i hi
      simp only [BitVec.getLsbD_extractLsb']
      have : 8 * (n + 1 - 1 - k.succ) = 8 * (n - 1 - k) := by omega
      rw [this]
      simp [hi]
      intro _; omega

/-- A number cut into bits of a width is the bit string of the number. -/
theorem bitsOfInt_eq (w : Nat) (x : Int) : bitsOfInt w x = bitsOf (BitVec.ofInt w x) := by
  unfold bitsOfInt
  rw [bitsOfNat_eq, BitVec.ofNat_toNat, BitVec.setWidth_eq]

/-- A bit string whose first eight bits are those of a byte is cut into that byte and the rest. -/
theorem packBits_byte (n : Nat) (b : Byte) (rest : List Bool) : packBits (n + 1) (bitsOf b ++ rest) = b :: packBits n rest := by
  rw [packBits, List.take_left' (length_bitsOf _), List.drop_left' (length_bitsOf _)]
  congr 1
  have one := packBits_bitsOf 1 b rfl
  simp only [packBits, List.take_of_length_le (Nat.le_of_eq (length_bitsOf b))] at one
  have same : bigEndian 1 b = [b] := by simp [bigEndian]
  exact (List.cons.inj (one.trans same)).1

theorem bytes16_eq (v : BitVec 16) : bytes16 v = bigEndian 2 v := rfl

/-- The fields of a record of QUERY TARGETS (R172, R174). -/
theorem entryBytes_eq (now : Millis) (slot : Nat) (e : Entry) :
    entryBytes now slot e = bigEndian 14
      (BitVec.ofNat 4 slot ++ BitVec.ofNat 2 e.state.code ++ BitVec.ofNat 4 e.hits ++ BitVec.ofNat 6 e.id ++
        BitVec.ofNat 3 e.cls ++ BitVec.ofNat 2 e.tier ++ BitVec.ofNat 4 e.confidence ++ BitVec.ofInt 11 e.azL ++
        BitVec.ofInt 11 e.azR ++ BitVec.ofInt 12 e.rate ++ BitVec.ofInt 10 e.elevB ++ BitVec.ofInt 10 e.elevT ++
        BitVec.ofNat 13 e.range ++ BitVec.ofNat 16 (min 65535 (ageOf now e.obsTime)) ++ (0 : BitVec 4)) := by
  rw [← packBits_bitsOf 14 _ rfl]
  unfold entryBytes
  simp only [bitsOfNat_eq, bitsOfInt_eq, bitsOf_append]
  rfl

/-- The fields of a record of QUERY NODES (R172, R174). -/
theorem nodeBytes_eq (id : Nat) (r : NodeRecord) :
    r.bytes id = bigEndian 7
      (BitVec.ofNat 5 id ++ BitVec.ofNat 3 r.state.code ++ BitVec.ofNat 4 r.mismatchCount ++
        BitVec.ofBool r.lastEcho.isSome ++ BitVec.ofNat 3 (min 7 r.failCount) ++ r.reportedEcho.derate ++
        r.reportedEcho.openFlags ++ r.reportedEcho.shortFlags) := by
  have first : BitVec.ofNat 5 id ++ BitVec.ofNat 3 r.state.code = byteOf (8 * id + r.state.code) := by
    apply BitVec.eq_of_toNat_eq
    have : r.state.code < 8 := by cases r.state <;> decide
    simp only [BitVec.toNat_append, byteOf, BitVec.toNat_ofNat]
    rw [← Nat.shiftLeft_add_eq_or_of_lt (by omega), Nat.shiftLeft_eq]
    omega
  have second : BitVec.ofNat 4 r.mismatchCount ++ BitVec.ofBool r.lastEcho.isSome ++ BitVec.ofNat 3 (min 7 r.failCount) =
      byteOf (16 * r.mismatchCount + 8 * r.lastEcho.isSome.toNat + min 7 r.failCount) := by
    apply BitVec.eq_of_toNat_eq
    have : r.lastEcho.isSome.toNat < 2 := Bool.toNat_lt _
    simp only [BitVec.toNat_append, byteOf, BitVec.toNat_ofNat, BitVec.toNat_ofBool]
    rw [← Nat.shiftLeft_add_eq_or_of_lt (by omega), ← Nat.shiftLeft_add_eq_or_of_lt (by omega), Nat.shiftLeft_eq,
      Nat.shiftLeft_eq]
    omega
  have cut : ∀ (v : BitVec 16) (rest : List Bool),
      packBits 4 (bitsOf v ++ rest) = packBits 2 (bitsOf v) ++ packBits 2 rest := by
    intro v rest
    have d2 : (bitsOf v).drop 16 = [] := List.drop_of_length_le (Nat.le_of_eq (length_bitsOf v))
    simp only [packBits, List.take_append, List.drop_append, List.length_drop, length_bitsOf]
    simp [d2]
  have all : packBits 7 (bitsOf (byteOf (8 * id + r.state.code)) ++
      (bitsOf (byteOf (16 * r.mismatchCount + 8 * r.lastEcho.isSome.toNat + min 7 r.failCount)) ++
        (bitsOf r.reportedEcho.derate ++ (bitsOf r.reportedEcho.openFlags ++ bitsOf r.reportedEcho.shortFlags)))) =
      r.bytes id := by
    rw [packBits_byte, packBits_byte, packBits_byte, cut, packBits_bitsOf 2 _ rfl, packBits_bitsOf 2 _ rfl]
    rfl
  rw [← packBits_bitsOf 7 _ rfl, ← all, ← first, ← second]
  simp only [bitsOf_append, List.append_assoc]

end Sys2Proof.Machine
end

