-- ==== Sys2Proof/Laws/State.lean ====
section
/-! SUPPORT. Every field of the state after each named update: one clause, and so one simp rule, for each field. No later proof
needs to unfold a record update. -/

namespace Sys2Proof.Machine

/-- Time passes (R21). -/
@[simp] theorem passTo_fields (t : Nat) (s : State) :
    (passTo t s).micros = max s.micros t ∧ (passTo t s).ties = s.ties ∧ (passTo t s).pending = s.pending ∧
    (passTo t s).trafficSideHigh = s.trafficSideHigh ∧ (passTo t s).mode = s.mode ∧
    (passTo t s).trackPending = s.trackPending ∧ (passTo t s).sceneSeen = s.sceneSeen ∧
    (passTo t s).trackSeen = s.trackSeen ∧ (passTo t s).sceneTimer = s.sceneTimer ∧
    (passTo t s).trackTimer = s.trackTimer ∧ (passTo t s).scene = s.scene ∧ (passTo t s).slots = s.slots ∧
    (passTo t s).lastTrackTime = s.lastTrackTime ∧ (passTo t s).trackAccepted = s.trackAccepted ∧
    (passTo t s).shaper = s.shaper ∧ (passTo t s).composition = s.composition ∧
    (passTo t s).framePhase = s.framePhase ∧ (passTo t s).left = s.left ∧ (passTo t s).right = s.right ∧
    (passTo t s).grant = s.grant ∧ (passTo t s).grantStart = s.grantStart ∧ (passTo t s).progress = s.progress ∧
    (passTo t s).exchange = s.exchange ∧ (passTo t s).passThrough = s.passThrough ∧ (passTo t s).nodes = s.nodes ∧
    (passTo t s).tables = s.tables ∧ (passTo t s).autoload = s.autoload ∧
    (passTo t s).holdingBuffer = s.holdingBuffer ∧ (passTo t s).faults = s.faults ∧
    (passTo t s).faultOverflow = s.faultOverflow ∧ (passTo t s).counters = s.counters ∧
    (passTo t s).framer = s.framer ∧ (passTo t s).rxBytes = s.rxBytes ∧ (passTo t s).rxSilentSince = s.rxSilentSince ∧
    (passTo t s).inbound = s.inbound ∧ (passTo t s).replyBuffer = s.replyBuffer ∧ (passTo t s).handler = s.handler :=
  ⟨rfl, rfl, rfl, rfl, rfl, rfl, rfl, rfl, rfl, rfl, rfl, rfl, rfl, rfl, rfl, rfl, rfl, rfl, rfl, rfl, rfl, rfl,
    rfl, rfl, rfl, rfl, rfl, rfl, rfl, rfl, rfl, rfl, rfl, rfl, rfl, rfl, rfl⟩

/-- A microsecond passes. -/
@[simp] theorem tick_fields (s : State) :
    (tick s).micros = s.micros + 1 ∧ (tick s).ties = s.ties ∧ (tick s).pending = s.pending ∧
    (tick s).trafficSideHigh = s.trafficSideHigh ∧ (tick s).mode = s.mode ∧ (tick s).trackPending = s.trackPending ∧
    (tick s).sceneSeen = s.sceneSeen ∧ (tick s).trackSeen = s.trackSeen ∧ (tick s).sceneTimer = s.sceneTimer ∧
    (tick s).trackTimer = s.trackTimer ∧ (tick s).scene = s.scene ∧ (tick s).slots = s.slots ∧
    (tick s).lastTrackTime = s.lastTrackTime ∧ (tick s).trackAccepted = s.trackAccepted ∧
    (tick s).shaper = s.shaper ∧ (tick s).composition = s.composition ∧ (tick s).framePhase = s.framePhase ∧
    (tick s).left = s.left ∧ (tick s).right = s.right ∧ (tick s).grant = s.grant ∧
    (tick s).grantStart = s.grantStart ∧ (tick s).progress = s.progress ∧ (tick s).exchange = s.exchange ∧
    (tick s).passThrough = s.passThrough ∧ (tick s).nodes = s.nodes ∧ (tick s).tables = s.tables ∧
    (tick s).autoload = s.autoload ∧ (tick s).holdingBuffer = s.holdingBuffer ∧ (tick s).faults = s.faults ∧
    (tick s).faultOverflow = s.faultOverflow ∧ (tick s).counters = s.counters ∧ (tick s).framer = s.framer ∧
    (tick s).rxBytes = s.rxBytes ∧ (tick s).rxSilentSince = s.rxSilentSince ∧ (tick s).inbound = s.inbound ∧
    (tick s).replyBuffer = s.replyBuffer ∧ (tick s).handler = s.handler :=
  ⟨rfl, rfl, rfl, rfl, rfl, rfl, rfl, rfl, rfl, rfl, rfl, rfl, rfl, rfl, rfl, rfl, rfl, rfl, rfl, rfl, rfl, rfl,
    rfl, rfl, rfl, rfl, rfl, rfl, rfl, rfl, rfl, rfl, rfl, rfl, rfl, rfl, rfl⟩

/-- An event is counted (R183). -/
@[simp] theorem countEvent_fields (id : CounterId) (s : State) :
    (countEvent id s).micros = s.micros ∧ (countEvent id s).ties = s.ties ∧ (countEvent id s).pending = s.pending ∧
    (countEvent id s).trafficSideHigh = s.trafficSideHigh ∧ (countEvent id s).mode = s.mode ∧
    (countEvent id s).trackPending = s.trackPending ∧ (countEvent id s).sceneSeen = s.sceneSeen ∧
    (countEvent id s).trackSeen = s.trackSeen ∧ (countEvent id s).sceneTimer = s.sceneTimer ∧
    (countEvent id s).trackTimer = s.trackTimer ∧ (countEvent id s).scene = s.scene ∧
    (countEvent id s).slots = s.slots ∧ (countEvent id s).lastTrackTime = s.lastTrackTime ∧
    (countEvent id s).trackAccepted = s.trackAccepted ∧ (countEvent id s).shaper = s.shaper ∧
    (countEvent id s).composition = s.composition ∧ (countEvent id s).framePhase = s.framePhase ∧
    (countEvent id s).left = s.left ∧ (countEvent id s).right = s.right ∧ (countEvent id s).grant = s.grant ∧
    (countEvent id s).grantStart = s.grantStart ∧ (countEvent id s).progress = s.progress ∧
    (countEvent id s).exchange = s.exchange ∧ (countEvent id s).passThrough = s.passThrough ∧
    (countEvent id s).nodes = s.nodes ∧ (countEvent id s).tables = s.tables ∧
    (countEvent id s).autoload = s.autoload ∧ (countEvent id s).holdingBuffer = s.holdingBuffer ∧
    (countEvent id s).faults = s.faults ∧ (countEvent id s).faultOverflow = s.faultOverflow ∧
    (countEvent id s).counters = s.counters.modify id.index Counter.increment ∧ (countEvent id s).framer = s.framer ∧
    (countEvent id s).rxBytes = s.rxBytes ∧ (countEvent id s).rxSilentSince = s.rxSilentSince ∧
    (countEvent id s).inbound = s.inbound ∧ (countEvent id s).replyBuffer = s.replyBuffer ∧
    (countEvent id s).handler = s.handler :=
  ⟨rfl, rfl, rfl, rfl, rfl, rfl, rfl, rfl, rfl, rfl, rfl, rfl, rfl, rfl, rfl, rfl, rfl, rfl, rfl, rfl, rfl, rfl,
    rfl, rfl, rfl, rfl, rfl, rfl, rfl, rfl, rfl, rfl, rfl, rfl, rfl, rfl, rfl⟩

/-- The fault list is emptied (R182). -/
@[simp] theorem emptyFaults_fields (s : State) :
    (emptyFaults s).micros = s.micros ∧ (emptyFaults s).ties = s.ties ∧ (emptyFaults s).pending = s.pending ∧
    (emptyFaults s).trafficSideHigh = s.trafficSideHigh ∧ (emptyFaults s).mode = s.mode ∧
    (emptyFaults s).trackPending = s.trackPending ∧ (emptyFaults s).sceneSeen = s.sceneSeen ∧
    (emptyFaults s).trackSeen = s.trackSeen ∧ (emptyFaults s).sceneTimer = s.sceneTimer ∧
    (emptyFaults s).trackTimer = s.trackTimer ∧ (emptyFaults s).scene = s.scene ∧ (emptyFaults s).slots = s.slots ∧
    (emptyFaults s).lastTrackTime = s.lastTrackTime ∧ (emptyFaults s).trackAccepted = s.trackAccepted ∧
    (emptyFaults s).shaper = s.shaper ∧ (emptyFaults s).composition = s.composition ∧
    (emptyFaults s).framePhase = s.framePhase ∧ (emptyFaults s).left = s.left ∧ (emptyFaults s).right = s.right ∧
    (emptyFaults s).grant = s.grant ∧ (emptyFaults s).grantStart = s.grantStart ∧
    (emptyFaults s).progress = s.progress ∧ (emptyFaults s).exchange = s.exchange ∧
    (emptyFaults s).passThrough = s.passThrough ∧ (emptyFaults s).nodes = s.nodes ∧
    (emptyFaults s).tables = s.tables ∧ (emptyFaults s).autoload = s.autoload ∧
    (emptyFaults s).holdingBuffer = s.holdingBuffer ∧ (emptyFaults s).faults = [] ∧
    (emptyFaults s).faultOverflow = false ∧ (emptyFaults s).counters = s.counters ∧
    (emptyFaults s).framer = s.framer ∧ (emptyFaults s).rxBytes = s.rxBytes ∧ (emptyFaults s).rxSilentSince = s.rxSilentSince ∧
    (emptyFaults s).inbound = s.inbound ∧ (emptyFaults s).replyBuffer = s.replyBuffer ∧
    (emptyFaults s).handler = s.handler :=
  ⟨rfl, rfl, rfl, rfl, rfl, rfl, rfl, rfl, rfl, rfl, rfl, rfl, rfl, rfl, rfl, rfl, rfl, rfl, rfl, rfl, rfl, rfl,
    rfl, rfl, rfl, rfl, rfl, rfl, rfl, rfl, rfl, rfl, rfl, rfl, rfl, rfl, rfl⟩

/-- The counters are cleared (R184). -/
@[simp] theorem clearCounters_fields (s : State) :
    (clearCounters s).micros = s.micros ∧ (clearCounters s).ties = s.ties ∧ (clearCounters s).pending = s.pending ∧
    (clearCounters s).trafficSideHigh = s.trafficSideHigh ∧ (clearCounters s).mode = s.mode ∧
    (clearCounters s).trackPending = s.trackPending ∧ (clearCounters s).sceneSeen = s.sceneSeen ∧
    (clearCounters s).trackSeen = s.trackSeen ∧ (clearCounters s).sceneTimer = s.sceneTimer ∧
    (clearCounters s).trackTimer = s.trackTimer ∧ (clearCounters s).scene = s.scene ∧
    (clearCounters s).slots = s.slots ∧ (clearCounters s).lastTrackTime = s.lastTrackTime ∧
    (clearCounters s).trackAccepted = s.trackAccepted ∧ (clearCounters s).shaper = s.shaper ∧
    (clearCounters s).composition = s.composition ∧ (clearCounters s).framePhase = s.framePhase ∧
    (clearCounters s).left = s.left ∧ (clearCounters s).right = s.right ∧ (clearCounters s).grant = s.grant ∧
    (clearCounters s).grantStart = s.grantStart ∧ (clearCounters s).progress = s.progress ∧
    (clearCounters s).exchange = s.exchange ∧ (clearCounters s).passThrough = s.passThrough ∧
    (clearCounters s).nodes = s.nodes ∧ (clearCounters s).tables = s.tables ∧
    (clearCounters s).autoload = s.autoload ∧ (clearCounters s).holdingBuffer = s.holdingBuffer ∧
    (clearCounters s).faults = s.faults ∧ (clearCounters s).faultOverflow = s.faultOverflow ∧
    (clearCounters s).counters = zeroCounters ∧ (clearCounters s).framer = s.framer ∧
    (clearCounters s).rxBytes = s.rxBytes ∧ (clearCounters s).rxSilentSince = s.rxSilentSince ∧
    (clearCounters s).inbound = s.inbound ∧ (clearCounters s).replyBuffer = s.replyBuffer ∧
    (clearCounters s).handler = s.handler :=
  ⟨rfl, rfl, rfl, rfl, rfl, rfl, rfl, rfl, rfl, rfl, rfl, rfl, rfl, rfl, rfl, rfl, rfl, rfl, rfl, rfl, rfl, rfl,
    rfl, rfl, rfl, rfl, rfl, rfl, rfl, rfl, rfl, rfl, rfl, rfl, rfl, rfl, rfl⟩

/-- A reply is built (R165). -/
@[simp] theorem answer_fields (f : LinkFrame) (status : Status) (part : List Byte) (s : State) :
    (answer f status part s).micros = s.micros ∧ (answer f status part s).ties = s.ties ∧
    (answer f status part s).pending = s.pending ∧ (answer f status part s).trafficSideHigh = s.trafficSideHigh ∧
    (answer f status part s).mode = s.mode ∧ (answer f status part s).trackPending = s.trackPending ∧
    (answer f status part s).sceneSeen = s.sceneSeen ∧ (answer f status part s).trackSeen = s.trackSeen ∧
    (answer f status part s).sceneTimer = s.sceneTimer ∧ (answer f status part s).trackTimer = s.trackTimer ∧
    (answer f status part s).scene = s.scene ∧ (answer f status part s).slots = s.slots ∧
    (answer f status part s).lastTrackTime = s.lastTrackTime ∧
    (answer f status part s).trackAccepted = s.trackAccepted ∧ (answer f status part s).shaper = s.shaper ∧
    (answer f status part s).composition = s.composition ∧ (answer f status part s).framePhase = s.framePhase ∧
    (answer f status part s).left = s.left ∧ (answer f status part s).right = s.right ∧
    (answer f status part s).grant = s.grant ∧ (answer f status part s).grantStart = s.grantStart ∧
    (answer f status part s).progress = s.progress ∧ (answer f status part s).exchange = s.exchange ∧
    (answer f status part s).passThrough = s.passThrough ∧ (answer f status part s).nodes = s.nodes ∧
    (answer f status part s).tables = s.tables ∧ (answer f status part s).autoload = s.autoload ∧
    (answer f status part s).holdingBuffer = s.holdingBuffer ∧ (answer f status part s).faults = s.faults ∧
    (answer f status part s).faultOverflow = s.faultOverflow ∧ (answer f status part s).counters = s.counters ∧
    (answer f status part s).framer = s.framer ∧ (answer f status part s).rxBytes = s.rxBytes ∧
    (answer f status part s).rxSilentSince = s.rxSilentSince ∧ (answer f status part s).inbound = s.inbound ∧
    (answer f status part s).replyBuffer = some (replyTo f status part s) ∧
    (answer f status part s).handler = .transmitting :=
  ⟨rfl, rfl, rfl, rfl, rfl, rfl, rfl, rfl, rfl, rfl, rfl, rfl, rfl, rfl, rfl, rfl, rfl, rfl, rfl, rfl, rfl, rfl,
    rfl, rfl, rfl, rfl, rfl, rfl, rfl, rfl, rfl, rfl, rfl, rfl, rfl, rfl, rfl⟩

/-- A slot is written (R18). -/
@[simp] theorem setSlot_fields (i : Nat) (e : Option Entry) (s : State) :
    (setSlot i e s).micros = s.micros ∧ (setSlot i e s).ties = s.ties ∧ (setSlot i e s).pending = s.pending ∧
    (setSlot i e s).trafficSideHigh = s.trafficSideHigh ∧ (setSlot i e s).mode = s.mode ∧
    (setSlot i e s).trackPending = s.trackPending ∧ (setSlot i e s).sceneSeen = s.sceneSeen ∧
    (setSlot i e s).trackSeen = s.trackSeen ∧ (setSlot i e s).sceneTimer = s.sceneTimer ∧
    (setSlot i e s).trackTimer = s.trackTimer ∧ (setSlot i e s).scene = s.scene ∧
    (setSlot i e s).slots = s.slots.set i e ∧ (setSlot i e s).lastTrackTime = s.lastTrackTime ∧
    (setSlot i e s).trackAccepted = s.trackAccepted ∧ (setSlot i e s).shaper = s.shaper ∧
    (setSlot i e s).composition = s.composition ∧ (setSlot i e s).framePhase = s.framePhase ∧
    (setSlot i e s).left = s.left ∧ (setSlot i e s).right = s.right ∧ (setSlot i e s).grant = s.grant ∧
    (setSlot i e s).grantStart = s.grantStart ∧ (setSlot i e s).progress = s.progress ∧
    (setSlot i e s).exchange = s.exchange ∧ (setSlot i e s).passThrough = s.passThrough ∧
    (setSlot i e s).nodes = s.nodes ∧ (setSlot i e s).tables = s.tables ∧ (setSlot i e s).autoload = s.autoload ∧
    (setSlot i e s).holdingBuffer = s.holdingBuffer ∧ (setSlot i e s).faults = s.faults ∧
    (setSlot i e s).faultOverflow = s.faultOverflow ∧ (setSlot i e s).counters = s.counters ∧
    (setSlot i e s).framer = s.framer ∧ (setSlot i e s).rxBytes = s.rxBytes ∧ (setSlot i e s).rxSilentSince = s.rxSilentSince ∧
    (setSlot i e s).inbound = s.inbound ∧ (setSlot i e s).replyBuffer = s.replyBuffer ∧
    (setSlot i e s).handler = s.handler :=
  ⟨rfl, rfl, rfl, rfl, rfl, rfl, rfl, rfl, rfl, rfl, rfl, rfl, rfl, rfl, rfl, rfl, rfl, rfl, rfl, rfl, rfl, rfl,
    rfl, rfl, rfl, rfl, rfl, rfl, rfl, rfl, rfl, rfl, rfl, rfl, rfl, rfl, rfl⟩

/-- The table is cleared (R42). -/
@[simp] theorem clearTable_fields (s : State) :
    (clearTable s).micros = s.micros ∧ (clearTable s).ties = s.ties ∧ (clearTable s).pending = s.pending ∧
    (clearTable s).trafficSideHigh = s.trafficSideHigh ∧ (clearTable s).mode = s.mode ∧
    (clearTable s).trackPending = s.trackPending ∧ (clearTable s).sceneSeen = s.sceneSeen ∧
    (clearTable s).trackSeen = s.trackSeen ∧ (clearTable s).sceneTimer = s.sceneTimer ∧
    (clearTable s).trackTimer = s.trackTimer ∧ (clearTable s).scene = s.scene ∧ (clearTable s).slots = freeSlots ∧
    (clearTable s).lastTrackTime = s.lastTrackTime ∧ (clearTable s).trackAccepted = s.trackAccepted ∧
    (clearTable s).shaper = s.shaper ∧ (clearTable s).composition = s.composition ∧
    (clearTable s).framePhase = s.framePhase ∧ (clearTable s).left = s.left ∧ (clearTable s).right = s.right ∧
    (clearTable s).grant = s.grant ∧ (clearTable s).grantStart = s.grantStart ∧
    (clearTable s).progress = s.progress ∧ (clearTable s).exchange = s.exchange ∧
    (clearTable s).passThrough = s.passThrough ∧ (clearTable s).nodes = s.nodes ∧ (clearTable s).tables = s.tables ∧
    (clearTable s).autoload = s.autoload ∧ (clearTable s).holdingBuffer = s.holdingBuffer ∧
    (clearTable s).faults = s.faults ∧ (clearTable s).faultOverflow = s.faultOverflow ∧
    (clearTable s).counters = s.counters ∧ (clearTable s).framer = s.framer ∧ (clearTable s).rxBytes = s.rxBytes ∧
    (clearTable s).rxSilentSince = s.rxSilentSince ∧ (clearTable s).inbound = s.inbound ∧
    (clearTable s).replyBuffer = s.replyBuffer ∧ (clearTable s).handler = s.handler :=
  ⟨rfl, rfl, rfl, rfl, rfl, rfl, rfl, rfl, rfl, rfl, rfl, rfl, rfl, rfl, rfl, rfl, rfl, rfl, rfl, rfl, rfl, rfl,
    rfl, rfl, rfl, rfl, rfl, rfl, rfl, rfl, rfl, rfl, rfl, rfl, rfl, rfl, rfl⟩

/-- The table ages (R38). -/
@[simp] theorem ageTable_fields (now : Millis) (s : State) :
    (ageTable now s).micros = s.micros ∧ (ageTable now s).ties = s.ties ∧ (ageTable now s).pending = s.pending ∧
    (ageTable now s).trafficSideHigh = s.trafficSideHigh ∧ (ageTable now s).mode = s.mode ∧
    (ageTable now s).trackPending = s.trackPending ∧ (ageTable now s).sceneSeen = s.sceneSeen ∧
    (ageTable now s).trackSeen = s.trackSeen ∧ (ageTable now s).sceneTimer = s.sceneTimer ∧
    (ageTable now s).trackTimer = s.trackTimer ∧ (ageTable now s).scene = s.scene ∧
    (ageTable now s).slots = s.slots.map (ageSlot s.coastStart s.coastLimit now) ∧
    (ageTable now s).lastTrackTime = s.lastTrackTime ∧ (ageTable now s).trackAccepted = s.trackAccepted ∧
    (ageTable now s).shaper = s.shaper ∧ (ageTable now s).composition = s.composition ∧
    (ageTable now s).framePhase = s.framePhase ∧ (ageTable now s).left = s.left ∧ (ageTable now s).right = s.right ∧
    (ageTable now s).grant = s.grant ∧ (ageTable now s).grantStart = s.grantStart ∧
    (ageTable now s).progress = s.progress ∧ (ageTable now s).exchange = s.exchange ∧
    (ageTable now s).passThrough = s.passThrough ∧ (ageTable now s).nodes = s.nodes ∧
    (ageTable now s).tables = s.tables ∧ (ageTable now s).autoload = s.autoload ∧
    (ageTable now s).holdingBuffer = s.holdingBuffer ∧ (ageTable now s).faults = s.faults ∧
    (ageTable now s).faultOverflow = s.faultOverflow ∧ (ageTable now s).counters = s.counters ∧
    (ageTable now s).framer = s.framer ∧ (ageTable now s).rxBytes = s.rxBytes ∧
    (ageTable now s).rxSilentSince = s.rxSilentSince ∧ (ageTable now s).inbound = s.inbound ∧
    (ageTable now s).replyBuffer = s.replyBuffer ∧ (ageTable now s).handler = s.handler :=
  ⟨rfl, rfl, rfl, rfl, rfl, rfl, rfl, rfl, rfl, rfl, rfl, rfl, rfl, rfl, rfl, rfl, rfl, rfl, rfl, rfl, rfl, rfl,
    rfl, rfl, rfl, rfl, rfl, rfl, rfl, rfl, rfl, rfl, rfl, rfl, rfl, rfl, rfl⟩

/-- A node record is written (R129). -/
@[simp] theorem setNode_fields (id : Nat) (r : NodeRecord) (s : State) :
    (setNode id r s).micros = s.micros ∧ (setNode id r s).ties = s.ties ∧ (setNode id r s).pending = s.pending ∧
    (setNode id r s).trafficSideHigh = s.trafficSideHigh ∧ (setNode id r s).mode = s.mode ∧
    (setNode id r s).trackPending = s.trackPending ∧ (setNode id r s).sceneSeen = s.sceneSeen ∧
    (setNode id r s).trackSeen = s.trackSeen ∧ (setNode id r s).sceneTimer = s.sceneTimer ∧
    (setNode id r s).trackTimer = s.trackTimer ∧ (setNode id r s).scene = s.scene ∧
    (setNode id r s).slots = s.slots ∧ (setNode id r s).lastTrackTime = s.lastTrackTime ∧
    (setNode id r s).trackAccepted = s.trackAccepted ∧ (setNode id r s).shaper = s.shaper ∧
    (setNode id r s).composition = s.composition ∧ (setNode id r s).framePhase = s.framePhase ∧
    (setNode id r s).left = s.left ∧ (setNode id r s).right = s.right ∧ (setNode id r s).grant = s.grant ∧
    (setNode id r s).grantStart = s.grantStart ∧ (setNode id r s).progress = s.progress ∧
    (setNode id r s).exchange = s.exchange ∧ (setNode id r s).passThrough = s.passThrough ∧
    (setNode id r s).nodes = s.nodes.set (id - 1) r ∧ (setNode id r s).tables = s.tables ∧
    (setNode id r s).autoload = s.autoload ∧ (setNode id r s).holdingBuffer = s.holdingBuffer ∧
    (setNode id r s).faults = s.faults ∧ (setNode id r s).faultOverflow = s.faultOverflow ∧
    (setNode id r s).counters = s.counters ∧ (setNode id r s).framer = s.framer ∧
    (setNode id r s).rxBytes = s.rxBytes ∧ (setNode id r s).rxSilentSince = s.rxSilentSince ∧
    (setNode id r s).inbound = s.inbound ∧ (setNode id r s).replyBuffer = s.replyBuffer ∧
    (setNode id r s).handler = s.handler :=
  ⟨rfl, rfl, rfl, rfl, rfl, rfl, rfl, rfl, rfl, rfl, rfl, rfl, rfl, rfl, rfl, rfl, rfl, rfl, rfl, rfl, rfl, rfl,
    rfl, rfl, rfl, rfl, rfl, rfl, rfl, rfl, rfl, rfl, rfl, rfl, rfl, rfl, rfl⟩

/-- A block starts (R114). -/
@[simp] theorem startExchange_fields (port : Head) (node : Nat) (content : BlockContent) (s : State) :
    (startExchange port node content s).micros = s.micros ∧ (startExchange port node content s).ties = s.ties ∧
    (startExchange port node content s).pending = s.pending ∧
    (startExchange port node content s).trafficSideHigh = s.trafficSideHigh ∧
    (startExchange port node content s).mode = s.mode ∧
    (startExchange port node content s).trackPending = s.trackPending ∧
    (startExchange port node content s).sceneSeen = s.sceneSeen ∧
    (startExchange port node content s).trackSeen = s.trackSeen ∧
    (startExchange port node content s).sceneTimer = s.sceneTimer ∧
    (startExchange port node content s).trackTimer = s.trackTimer ∧
    (startExchange port node content s).scene = s.scene ∧ (startExchange port node content s).slots = s.slots ∧
    (startExchange port node content s).lastTrackTime = s.lastTrackTime ∧
    (startExchange port node content s).trackAccepted = s.trackAccepted ∧
    (startExchange port node content s).shaper = s.shaper ∧
    (startExchange port node content s).composition = s.composition ∧
    (startExchange port node content s).framePhase = s.framePhase ∧
    (startExchange port node content s).left = s.left ∧ (startExchange port node content s).right = s.right ∧
    (startExchange port node content s).grant = s.grant ∧
    (startExchange port node content s).grantStart = s.grantStart ∧
    (startExchange port node content s).progress = s.progress ∧
    (startExchange port node content s).exchange = some { port, node, content, startedAt := s.micros, phase := .sending } ∧
    (startExchange port node content s).passThrough = s.passThrough ∧
    (startExchange port node content s).nodes = s.nodes ∧ (startExchange port node content s).tables = s.tables ∧
    (startExchange port node content s).autoload = s.autoload ∧
    (startExchange port node content s).holdingBuffer = s.holdingBuffer ∧
    (startExchange port node content s).faults = s.faults ∧
    (startExchange port node content s).faultOverflow = s.faultOverflow ∧
    (startExchange port node content s).counters = s.counters ∧
    (startExchange port node content s).framer = s.framer ∧ (startExchange port node content s).rxBytes = s.rxBytes ∧
    (startExchange port node content s).rxSilentSince = s.rxSilentSince ∧
    (startExchange port node content s).inbound = s.inbound ∧
    (startExchange port node content s).replyBuffer = s.replyBuffer ∧
    (startExchange port node content s).handler = s.handler :=
  ⟨rfl, rfl, rfl, rfl, rfl, rfl, rfl, rfl, rfl, rfl, rfl, rfl, rfl, rfl, rfl, rfl, rfl, rfl, rfl, rfl, rfl, rfl,
    rfl, rfl, rfl, rfl, rfl, rfl, rfl, rfl, rfl, rfl, rfl, rfl, rfl, rfl, rfl⟩

/-- An exchange moves on (R115). -/
@[simp] theorem setPhase_fields (x : Exchange) (phase : ExchangePhase) (s : State) :
    (setPhase x phase s).micros = s.micros ∧ (setPhase x phase s).ties = s.ties ∧
    (setPhase x phase s).pending = s.pending ∧ (setPhase x phase s).trafficSideHigh = s.trafficSideHigh ∧
    (setPhase x phase s).mode = s.mode ∧ (setPhase x phase s).trackPending = s.trackPending ∧
    (setPhase x phase s).sceneSeen = s.sceneSeen ∧ (setPhase x phase s).trackSeen = s.trackSeen ∧
    (setPhase x phase s).sceneTimer = s.sceneTimer ∧ (setPhase x phase s).trackTimer = s.trackTimer ∧
    (setPhase x phase s).scene = s.scene ∧ (setPhase x phase s).slots = s.slots ∧
    (setPhase x phase s).lastTrackTime = s.lastTrackTime ∧ (setPhase x phase s).trackAccepted = s.trackAccepted ∧
    (setPhase x phase s).shaper = s.shaper ∧ (setPhase x phase s).composition = s.composition ∧
    (setPhase x phase s).framePhase = s.framePhase ∧ (setPhase x phase s).left = s.left ∧
    (setPhase x phase s).right = s.right ∧ (setPhase x phase s).grant = s.grant ∧
    (setPhase x phase s).grantStart = s.grantStart ∧ (setPhase x phase s).progress = s.progress ∧
    (setPhase x phase s).exchange = some { x with phase } ∧ (setPhase x phase s).passThrough = s.passThrough ∧
    (setPhase x phase s).nodes = s.nodes ∧ (setPhase x phase s).tables = s.tables ∧
    (setPhase x phase s).autoload = s.autoload ∧ (setPhase x phase s).holdingBuffer = s.holdingBuffer ∧
    (setPhase x phase s).faults = s.faults ∧ (setPhase x phase s).faultOverflow = s.faultOverflow ∧
    (setPhase x phase s).counters = s.counters ∧ (setPhase x phase s).framer = s.framer ∧
    (setPhase x phase s).rxBytes = s.rxBytes ∧ (setPhase x phase s).rxSilentSince = s.rxSilentSince ∧
    (setPhase x phase s).inbound = s.inbound ∧ (setPhase x phase s).replyBuffer = s.replyBuffer ∧
    (setPhase x phase s).handler = s.handler :=
  ⟨rfl, rfl, rfl, rfl, rfl, rfl, rfl, rfl, rfl, rfl, rfl, rfl, rfl, rfl, rfl, rfl, rfl, rfl, rfl, rfl, rfl, rfl,
    rfl, rfl, rfl, rfl, rfl, rfl, rfl, rfl, rfl, rfl, rfl, rfl, rfl, rfl, rfl⟩

/-- The scene timer starts (R147). -/
@[simp] theorem startSceneTimer_fields (s : State) :
    (startSceneTimer s).micros = s.micros ∧ (startSceneTimer s).ties = s.ties ∧
    (startSceneTimer s).pending = s.pending ∧ (startSceneTimer s).trafficSideHigh = s.trafficSideHigh ∧
    (startSceneTimer s).mode = s.mode ∧ (startSceneTimer s).trackPending = s.trackPending ∧
    (startSceneTimer s).sceneSeen = s.sceneSeen ∧ (startSceneTimer s).trackSeen = s.trackSeen ∧
    (startSceneTimer s).sceneTimer = some (s.timeBase + millis s.sceneTimeout) ∧
    (startSceneTimer s).trackTimer = s.trackTimer ∧ (startSceneTimer s).scene = s.scene ∧
    (startSceneTimer s).slots = s.slots ∧ (startSceneTimer s).lastTrackTime = s.lastTrackTime ∧
    (startSceneTimer s).trackAccepted = s.trackAccepted ∧ (startSceneTimer s).shaper = s.shaper ∧
    (startSceneTimer s).composition = s.composition ∧ (startSceneTimer s).framePhase = s.framePhase ∧
    (startSceneTimer s).left = s.left ∧ (startSceneTimer s).right = s.right ∧ (startSceneTimer s).grant = s.grant ∧
    (startSceneTimer s).grantStart = s.grantStart ∧ (startSceneTimer s).progress = s.progress ∧
    (startSceneTimer s).exchange = s.exchange ∧ (startSceneTimer s).passThrough = s.passThrough ∧
    (startSceneTimer s).nodes = s.nodes ∧ (startSceneTimer s).tables = s.tables ∧
    (startSceneTimer s).autoload = s.autoload ∧ (startSceneTimer s).holdingBuffer = s.holdingBuffer ∧
    (startSceneTimer s).faults = s.faults ∧ (startSceneTimer s).faultOverflow = s.faultOverflow ∧
    (startSceneTimer s).counters = s.counters ∧ (startSceneTimer s).framer = s.framer ∧
    (startSceneTimer s).rxBytes = s.rxBytes ∧ (startSceneTimer s).rxSilentSince = s.rxSilentSince ∧
    (startSceneTimer s).inbound = s.inbound ∧ (startSceneTimer s).replyBuffer = s.replyBuffer ∧
    (startSceneTimer s).handler = s.handler :=
  ⟨rfl, rfl, rfl, rfl, rfl, rfl, rfl, rfl, rfl, rfl, rfl, rfl, rfl, rfl, rfl, rfl, rfl, rfl, rfl, rfl, rfl, rfl,
    rfl, rfl, rfl, rfl, rfl, rfl, rfl, rfl, rfl, rfl, rfl, rfl, rfl, rfl, rfl⟩

/-- The track timer starts (R147). -/
@[simp] theorem startTrackTimer_fields (s : State) :
    (startTrackTimer s).micros = s.micros ∧ (startTrackTimer s).ties = s.ties ∧
    (startTrackTimer s).pending = s.pending ∧ (startTrackTimer s).trafficSideHigh = s.trafficSideHigh ∧
    (startTrackTimer s).mode = s.mode ∧ (startTrackTimer s).trackPending = s.trackPending ∧
    (startTrackTimer s).sceneSeen = s.sceneSeen ∧ (startTrackTimer s).trackSeen = s.trackSeen ∧
    (startTrackTimer s).sceneTimer = s.sceneTimer ∧
    (startTrackTimer s).trackTimer = some (s.timeBase + millis s.trackTimeout) ∧
    (startTrackTimer s).scene = s.scene ∧ (startTrackTimer s).slots = s.slots ∧
    (startTrackTimer s).lastTrackTime = s.lastTrackTime ∧ (startTrackTimer s).trackAccepted = s.trackAccepted ∧
    (startTrackTimer s).shaper = s.shaper ∧ (startTrackTimer s).composition = s.composition ∧
    (startTrackTimer s).framePhase = s.framePhase ∧ (startTrackTimer s).left = s.left ∧
    (startTrackTimer s).right = s.right ∧ (startTrackTimer s).grant = s.grant ∧
    (startTrackTimer s).grantStart = s.grantStart ∧ (startTrackTimer s).progress = s.progress ∧
    (startTrackTimer s).exchange = s.exchange ∧ (startTrackTimer s).passThrough = s.passThrough ∧
    (startTrackTimer s).nodes = s.nodes ∧ (startTrackTimer s).tables = s.tables ∧
    (startTrackTimer s).autoload = s.autoload ∧ (startTrackTimer s).holdingBuffer = s.holdingBuffer ∧
    (startTrackTimer s).faults = s.faults ∧ (startTrackTimer s).faultOverflow = s.faultOverflow ∧
    (startTrackTimer s).counters = s.counters ∧ (startTrackTimer s).framer = s.framer ∧
    (startTrackTimer s).rxBytes = s.rxBytes ∧ (startTrackTimer s).rxSilentSince = s.rxSilentSince ∧
    (startTrackTimer s).inbound = s.inbound ∧ (startTrackTimer s).replyBuffer = s.replyBuffer ∧
    (startTrackTimer s).handler = s.handler :=
  ⟨rfl, rfl, rfl, rfl, rfl, rfl, rfl, rfl, rfl, rfl, rfl, rfl, rfl, rfl, rfl, rfl, rfl, rfl, rfl, rfl, rfl, rfl,
    rfl, rfl, rfl, rfl, rfl, rfl, rfl, rfl, rfl, rfl, rfl, rfl, rfl, rfl, rfl⟩

/-- The frame clock starts (R83). -/
@[simp] theorem startFrameClock_fields (s : State) :
    (startFrameClock s).micros = s.micros ∧ (startFrameClock s).ties = s.ties ∧
    (startFrameClock s).pending = s.pending ∧ (startFrameClock s).trafficSideHigh = s.trafficSideHigh ∧
    (startFrameClock s).mode = s.mode ∧ (startFrameClock s).trackPending = s.trackPending ∧
    (startFrameClock s).sceneSeen = s.sceneSeen ∧ (startFrameClock s).trackSeen = s.trackSeen ∧
    (startFrameClock s).sceneTimer = s.sceneTimer ∧ (startFrameClock s).trackTimer = s.trackTimer ∧
    (startFrameClock s).scene = s.scene ∧ (startFrameClock s).slots = s.slots ∧
    (startFrameClock s).lastTrackTime = s.lastTrackTime ∧ (startFrameClock s).trackAccepted = s.trackAccepted ∧
    (startFrameClock s).shaper = s.shaper ∧ (startFrameClock s).composition = s.composition ∧
    (startFrameClock s).framePhase = some (s.timeBase + millis s.framePeriod) ∧ (startFrameClock s).left = s.left ∧
    (startFrameClock s).right = s.right ∧ (startFrameClock s).grant = s.grant ∧
    (startFrameClock s).grantStart = s.grantStart ∧ (startFrameClock s).progress = s.progress ∧
    (startFrameClock s).exchange = s.exchange ∧ (startFrameClock s).passThrough = s.passThrough ∧
    (startFrameClock s).nodes = s.nodes ∧ (startFrameClock s).tables = s.tables ∧
    (startFrameClock s).autoload = s.autoload ∧ (startFrameClock s).holdingBuffer = s.holdingBuffer ∧
    (startFrameClock s).faults = s.faults ∧ (startFrameClock s).faultOverflow = s.faultOverflow ∧
    (startFrameClock s).counters = s.counters ∧ (startFrameClock s).framer = s.framer ∧
    (startFrameClock s).rxBytes = s.rxBytes ∧ (startFrameClock s).rxSilentSince = s.rxSilentSince ∧
    (startFrameClock s).inbound = s.inbound ∧ (startFrameClock s).replyBuffer = s.replyBuffer ∧
    (startFrameClock s).handler = s.handler :=
  ⟨rfl, rfl, rfl, rfl, rfl, rfl, rfl, rfl, rfl, rfl, rfl, rfl, rfl, rfl, rfl, rfl, rfl, rfl, rfl, rfl, rfl, rfl,
    rfl, rfl, rfl, rfl, rfl, rfl, rfl, rfl, rfl, rfl, rfl, rfl, rfl, rfl, rfl⟩

/-- The HOLD lines are released (R107). -/
@[simp] theorem releaseHolds_fields (s : State) :
    (releaseHolds s).micros = s.micros ∧ (releaseHolds s).ties = s.ties ∧ (releaseHolds s).pending = s.pending ∧
    (releaseHolds s).trafficSideHigh = s.trafficSideHigh ∧ (releaseHolds s).mode = s.mode ∧
    (releaseHolds s).trackPending = s.trackPending ∧ (releaseHolds s).sceneSeen = s.sceneSeen ∧
    (releaseHolds s).trackSeen = s.trackSeen ∧ (releaseHolds s).sceneTimer = s.sceneTimer ∧
    (releaseHolds s).trackTimer = s.trackTimer ∧ (releaseHolds s).scene = s.scene ∧
    (releaseHolds s).slots = s.slots ∧ (releaseHolds s).lastTrackTime = s.lastTrackTime ∧
    (releaseHolds s).trackAccepted = s.trackAccepted ∧ (releaseHolds s).shaper = s.shaper ∧
    (releaseHolds s).composition = s.composition ∧ (releaseHolds s).framePhase = s.framePhase ∧
    (releaseHolds s).left = { s.left with hold := !s.present .left } ∧
    (releaseHolds s).right = { s.right with hold := !s.present .right } ∧ (releaseHolds s).grant = s.grant ∧
    (releaseHolds s).grantStart = s.grantStart ∧ (releaseHolds s).progress = s.progress ∧
    (releaseHolds s).exchange = s.exchange ∧ (releaseHolds s).passThrough = s.passThrough ∧
    (releaseHolds s).nodes = s.nodes ∧ (releaseHolds s).tables = s.tables ∧ (releaseHolds s).autoload = s.autoload ∧
    (releaseHolds s).holdingBuffer = s.holdingBuffer ∧ (releaseHolds s).faults = s.faults ∧
    (releaseHolds s).faultOverflow = s.faultOverflow ∧ (releaseHolds s).counters = s.counters ∧
    (releaseHolds s).framer = s.framer ∧ (releaseHolds s).rxBytes = s.rxBytes ∧
    (releaseHolds s).rxSilentSince = s.rxSilentSince ∧ (releaseHolds s).inbound = s.inbound ∧
    (releaseHolds s).replyBuffer = s.replyBuffer ∧ (releaseHolds s).handler = s.handler :=
  ⟨rfl, rfl, rfl, rfl, rfl, rfl, rfl, rfl, rfl, rfl, rfl, rfl, rfl, rfl, rfl, rfl, rfl, rfl, rfl, rfl, rfl, rfl,
    rfl, rfl, rfl, rfl, rfl, rfl, rfl, rfl, rfl, rfl, rfl, rfl, rfl, rfl, rfl⟩

/-- The direct frames are zeroed (R98). -/
@[simp] theorem zeroDirect_fields (s : State) :
    (zeroDirect s).micros = s.micros ∧ (zeroDirect s).ties = s.ties ∧ (zeroDirect s).pending = s.pending ∧
    (zeroDirect s).trafficSideHigh = s.trafficSideHigh ∧ (zeroDirect s).mode = s.mode ∧
    (zeroDirect s).trackPending = s.trackPending ∧ (zeroDirect s).sceneSeen = s.sceneSeen ∧
    (zeroDirect s).trackSeen = s.trackSeen ∧ (zeroDirect s).sceneTimer = s.sceneTimer ∧
    (zeroDirect s).trackTimer = s.trackTimer ∧ (zeroDirect s).scene = s.scene ∧ (zeroDirect s).slots = s.slots ∧
    (zeroDirect s).lastTrackTime = s.lastTrackTime ∧ (zeroDirect s).trackAccepted = s.trackAccepted ∧
    (zeroDirect s).shaper = s.shaper ∧ (zeroDirect s).composition = s.composition ∧
    (zeroDirect s).framePhase = s.framePhase ∧ (zeroDirect s).left = { s.left with direct := darkFrame } ∧
    (zeroDirect s).right = { s.right with direct := darkFrame } ∧ (zeroDirect s).grant = s.grant ∧
    (zeroDirect s).grantStart = s.grantStart ∧ (zeroDirect s).progress = s.progress ∧
    (zeroDirect s).exchange = s.exchange ∧ (zeroDirect s).passThrough = s.passThrough ∧
    (zeroDirect s).nodes = s.nodes ∧ (zeroDirect s).tables = s.tables ∧ (zeroDirect s).autoload = s.autoload ∧
    (zeroDirect s).holdingBuffer = s.holdingBuffer ∧ (zeroDirect s).faults = s.faults ∧
    (zeroDirect s).faultOverflow = s.faultOverflow ∧ (zeroDirect s).counters = s.counters ∧
    (zeroDirect s).framer = s.framer ∧ (zeroDirect s).rxBytes = s.rxBytes ∧ (zeroDirect s).rxSilentSince = s.rxSilentSince ∧
    (zeroDirect s).inbound = s.inbound ∧ (zeroDirect s).replyBuffer = s.replyBuffer ∧
    (zeroDirect s).handler = s.handler :=
  ⟨rfl, rfl, rfl, rfl, rfl, rfl, rfl, rfl, rfl, rfl, rfl, rfl, rfl, rfl, rfl, rfl, rfl, rfl, rfl, rfl, rfl, rfl,
    rfl, rfl, rfl, rfl, rfl, rfl, rfl, rfl, rfl, rfl, rfl, rfl, rfl, rfl, rfl⟩

/-- An item is written (R179). -/
@[simp] theorem setItem_fields (table index : Nat) (value : Int) (s : State) :
    (setItem table index value s).micros = s.micros ∧ (setItem table index value s).ties = s.ties ∧
    (setItem table index value s).pending = s.pending ∧
    (setItem table index value s).trafficSideHigh = s.trafficSideHigh ∧ (setItem table index value s).mode = s.mode ∧
    (setItem table index value s).trackPending = s.trackPending ∧
    (setItem table index value s).sceneSeen = s.sceneSeen ∧ (setItem table index value s).trackSeen = s.trackSeen ∧
    (setItem table index value s).sceneTimer = s.sceneTimer ∧
    (setItem table index value s).trackTimer = s.trackTimer ∧ (setItem table index value s).scene = s.scene ∧
    (setItem table index value s).slots = s.slots ∧ (setItem table index value s).lastTrackTime = s.lastTrackTime ∧
    (setItem table index value s).trackAccepted = s.trackAccepted ∧ (setItem table index value s).shaper = s.shaper ∧
    (setItem table index value s).composition = s.composition ∧
    (setItem table index value s).framePhase = s.framePhase ∧ (setItem table index value s).left = s.left ∧
    (setItem table index value s).right = s.right ∧ (setItem table index value s).grant = s.grant ∧
    (setItem table index value s).grantStart = s.grantStart ∧ (setItem table index value s).progress = s.progress ∧
    (setItem table index value s).exchange = s.exchange ∧ (setItem table index value s).passThrough = s.passThrough ∧
    (setItem table index value s).nodes = s.nodes ∧
    (setItem table index value s).tables = s.tables.modify table (fun items => items.set index value) ∧
    (setItem table index value s).autoload = s.autoload ∧
    (setItem table index value s).holdingBuffer = s.holdingBuffer ∧ (setItem table index value s).faults = s.faults ∧
    (setItem table index value s).faultOverflow = s.faultOverflow ∧
    (setItem table index value s).counters = s.counters ∧ (setItem table index value s).framer = s.framer ∧
    (setItem table index value s).rxBytes = s.rxBytes ∧ (setItem table index value s).rxSilentSince = s.rxSilentSince ∧
    (setItem table index value s).inbound = s.inbound ∧ (setItem table index value s).replyBuffer = s.replyBuffer ∧
    (setItem table index value s).handler = s.handler :=
  ⟨rfl, rfl, rfl, rfl, rfl, rfl, rfl, rfl, rfl, rfl, rfl, rfl, rfl, rfl, rfl, rfl, rfl, rfl, rfl, rfl, rfl, rfl,
    rfl, rfl, rfl, rfl, rfl, rfl, rfl, rfl, rfl, rfl, rfl, rfl, rfl, rfl, rfl⟩

/-- A head is replaced. -/
@[simp] theorem setHead_fields (h : Head) (hs : HeadState) (s : State) :
    (s.setHead h hs).micros = s.micros ∧ (s.setHead h hs).ties = s.ties ∧ (s.setHead h hs).pending = s.pending ∧
    (s.setHead h hs).trafficSideHigh = s.trafficSideHigh ∧ (s.setHead h hs).mode = s.mode ∧
    (s.setHead h hs).trackPending = s.trackPending ∧ (s.setHead h hs).sceneSeen = s.sceneSeen ∧
    (s.setHead h hs).trackSeen = s.trackSeen ∧ (s.setHead h hs).sceneTimer = s.sceneTimer ∧
    (s.setHead h hs).trackTimer = s.trackTimer ∧ (s.setHead h hs).scene = s.scene ∧
    (s.setHead h hs).slots = s.slots ∧ (s.setHead h hs).lastTrackTime = s.lastTrackTime ∧
    (s.setHead h hs).trackAccepted = s.trackAccepted ∧ (s.setHead h hs).shaper = s.shaper ∧
    (s.setHead h hs).composition = s.composition ∧ (s.setHead h hs).framePhase = s.framePhase ∧
    (s.setHead h hs).grant = s.grant ∧ (s.setHead h hs).grantStart = s.grantStart ∧
    (s.setHead h hs).progress = s.progress ∧ (s.setHead h hs).exchange = s.exchange ∧
    (s.setHead h hs).passThrough = s.passThrough ∧ (s.setHead h hs).nodes = s.nodes ∧
    (s.setHead h hs).tables = s.tables ∧ (s.setHead h hs).autoload = s.autoload ∧
    (s.setHead h hs).holdingBuffer = s.holdingBuffer ∧ (s.setHead h hs).faults = s.faults ∧
    (s.setHead h hs).faultOverflow = s.faultOverflow ∧ (s.setHead h hs).counters = s.counters ∧
    (s.setHead h hs).framer = s.framer ∧ (s.setHead h hs).rxBytes = s.rxBytes ∧
    (s.setHead h hs).rxSilentSince = s.rxSilentSince ∧ (s.setHead h hs).inbound = s.inbound ∧
    (s.setHead h hs).replyBuffer = s.replyBuffer ∧ (s.setHead h hs).handler = s.handler :=
  by
  cases h <;>
  exact
    ⟨rfl, rfl, rfl, rfl, rfl, rfl, rfl, rfl, rfl, rfl, rfl, rfl, rfl, rfl, rfl, rfl, rfl, rfl, rfl, rfl, rfl,
      rfl, rfl, rfl, rfl, rfl, rfl, rfl, rfl, rfl, rfl, rfl, rfl, rfl, rfl⟩

/-- A fault is latched (R181). -/
@[simp] theorem latchFault_fields (kind : FaultKind) (subject : Nat) (now : Millis) (s : State) :
    (latchFault kind subject now s).micros = s.micros ∧ (latchFault kind subject now s).ties = s.ties ∧
    (latchFault kind subject now s).pending = s.pending ∧
    (latchFault kind subject now s).trafficSideHigh = s.trafficSideHigh ∧
    (latchFault kind subject now s).mode = s.mode ∧ (latchFault kind subject now s).trackPending = s.trackPending ∧
    (latchFault kind subject now s).sceneSeen = s.sceneSeen ∧
    (latchFault kind subject now s).trackSeen = s.trackSeen ∧
    (latchFault kind subject now s).sceneTimer = s.sceneTimer ∧
    (latchFault kind subject now s).trackTimer = s.trackTimer ∧ (latchFault kind subject now s).scene = s.scene ∧
    (latchFault kind subject now s).slots = s.slots ∧
    (latchFault kind subject now s).lastTrackTime = s.lastTrackTime ∧
    (latchFault kind subject now s).trackAccepted = s.trackAccepted ∧
    (latchFault kind subject now s).shaper = s.shaper ∧ (latchFault kind subject now s).composition = s.composition ∧
    (latchFault kind subject now s).framePhase = s.framePhase ∧ (latchFault kind subject now s).left = s.left ∧
    (latchFault kind subject now s).right = s.right ∧ (latchFault kind subject now s).grant = s.grant ∧
    (latchFault kind subject now s).grantStart = s.grantStart ∧
    (latchFault kind subject now s).progress = s.progress ∧ (latchFault kind subject now s).exchange = s.exchange ∧
    (latchFault kind subject now s).passThrough = s.passThrough ∧ (latchFault kind subject now s).nodes = s.nodes ∧
    (latchFault kind subject now s).tables = s.tables ∧ (latchFault kind subject now s).autoload = s.autoload ∧
    (latchFault kind subject now s).holdingBuffer = s.holdingBuffer ∧
    (latchFault kind subject now s).counters = s.counters ∧ (latchFault kind subject now s).framer = s.framer ∧
    (latchFault kind subject now s).rxBytes = s.rxBytes ∧ (latchFault kind subject now s).rxSilentSince = s.rxSilentSince ∧
    (latchFault kind subject now s).inbound = s.inbound ∧
    (latchFault kind subject now s).replyBuffer = s.replyBuffer ∧
    (latchFault kind subject now s).handler = s.handler := by
  unfold latchFault
  split
  · exact ⟨rfl, rfl, rfl, rfl, rfl, rfl, rfl, rfl, rfl, rfl, rfl, rfl, rfl, rfl, rfl, rfl, rfl, rfl, rfl, rfl,
        rfl, rfl, rfl, rfl, rfl, rfl, rfl, rfl, rfl, rfl, rfl, rfl, rfl, rfl, rfl⟩
  · split <;>
      exact ⟨rfl, rfl, rfl, rfl, rfl, rfl, rfl, rfl, rfl, rfl, rfl, rfl, rfl, rfl, rfl, rfl, rfl, rfl, rfl, rfl,
        rfl, rfl, rfl, rfl, rfl, rfl, rfl, rfl, rfl, rfl, rfl, rfl, rfl, rfl, rfl⟩

/-- A fault is latched at the present time (R181). -/
@[simp] theorem latch_fields (kind : FaultKind) (subject : Nat) (s : State) :
    (latch kind subject s).micros = s.micros ∧ (latch kind subject s).ties = s.ties ∧
    (latch kind subject s).pending = s.pending ∧ (latch kind subject s).trafficSideHigh = s.trafficSideHigh ∧
    (latch kind subject s).mode = s.mode ∧ (latch kind subject s).trackPending = s.trackPending ∧
    (latch kind subject s).sceneSeen = s.sceneSeen ∧ (latch kind subject s).trackSeen = s.trackSeen ∧
    (latch kind subject s).sceneTimer = s.sceneTimer ∧ (latch kind subject s).trackTimer = s.trackTimer ∧
    (latch kind subject s).scene = s.scene ∧ (latch kind subject s).slots = s.slots ∧
    (latch kind subject s).lastTrackTime = s.lastTrackTime ∧ (latch kind subject s).trackAccepted = s.trackAccepted ∧
    (latch kind subject s).shaper = s.shaper ∧ (latch kind subject s).composition = s.composition ∧
    (latch kind subject s).framePhase = s.framePhase ∧ (latch kind subject s).left = s.left ∧
    (latch kind subject s).right = s.right ∧ (latch kind subject s).grant = s.grant ∧
    (latch kind subject s).grantStart = s.grantStart ∧ (latch kind subject s).progress = s.progress ∧
    (latch kind subject s).exchange = s.exchange ∧ (latch kind subject s).passThrough = s.passThrough ∧
    (latch kind subject s).nodes = s.nodes ∧ (latch kind subject s).tables = s.tables ∧
    (latch kind subject s).autoload = s.autoload ∧ (latch kind subject s).holdingBuffer = s.holdingBuffer ∧
    (latch kind subject s).counters = s.counters ∧ (latch kind subject s).framer = s.framer ∧
    (latch kind subject s).rxBytes = s.rxBytes ∧ (latch kind subject s).rxSilentSince = s.rxSilentSince ∧
    (latch kind subject s).inbound = s.inbound ∧ (latch kind subject s).replyBuffer = s.replyBuffer ∧
    (latch kind subject s).handler = s.handler :=
  latchFault_fields kind subject s.timeBase s

/-- The head that was replaced. -/
@[simp] theorem setHead_head_self (h : Head) (hs : HeadState) (s : State) : (s.setHead h hs).head h = hs := by cases h <;> rfl

/-- The head on the other side is as it was. -/
@[simp] theorem setHead_head_other (h : Head) (hs : HeadState) (s : State) :
    (s.setHead h hs).head h.other = s.head h.other := by cases h <;> rfl

/-- Replacing a head by itself changes nothing. -/
@[simp] theorem setHead_head (h : Head) (s : State) : s.setHead h (s.head h) = s := by cases h <;> rfl

/-- The head on the other side is another one. -/
@[simp] theorem other_other (h : Head) : h.other.other = h := by cases h <;> rfl

/-- A calibration item, and with it everything read from the tables, depends on the tables alone. -/
theorem item_congr {s t : State} (h : t.tables = s.tables) (table index : Nat) : t.item table index = s.item table index := by
  unfold State.item; rw [h]

/-- The time base depends on the microseconds alone. -/
theorem timeBase_congr {s t : State} (h : t.micros = s.micros) : t.timeBase = s.timeBase := by
  unfold State.timeBase; rw [h]

/-- A head of two equal pairs of heads. -/
theorem head_congr {s t : State} (hl : t.left = s.left) (hr : t.right = s.right) (h : Head) : t.head h = s.head h := by
  cases h
  · exact hl
  · exact hr

end Sys2Proof.Machine
end

