-- ==== Sys2Proof/Laws/Frames.lean ====
section
/-! SUPPORT. What each shared operation can change: one frame lemma for each, to be cited in place of unfolding it. -/

namespace Sys2Proof.Machine

/-- Nothing but the fault list and its flag differs. -/
abbrev OnlyFaults (s t : State) : Prop := t = { s with faults := t.faults, faultOverflow := t.faultOverflow }

/-- Nothing but the counters differs. -/
abbrev OnlyCounters (s t : State) : Prop := t = { s with counters := t.counters }

/-- Nothing but the slots and the counters differs. -/
abbrev OnlyTable (s t : State) : Prop := t = { s with slots := t.slots, counters := t.counters }

/-- Nothing but what a grant or the end of one touches differs: the heads, the Link Sequencer and the counters. -/
abbrev OnlySequencer (s t : State) : Prop :=
  t = { s with
    left := t.left, right := t.right, grant := t.grant, grantStart := t.grantStart, progress := t.progress,
    exchange := t.exchange, passThrough := t.passThrough, counters := t.counters }

/-- Nothing but the node records and the fault list differs. -/
abbrev OnlyJudged (s t : State) : Prop :=
  t = { s with nodes := t.nodes, faults := t.faults, faultOverflow := t.faultOverflow }

/-- Nothing but what the completion of an exchange touches differs: that of `OnlySequencer`, the node records, the fault list
and the reply. -/
abbrev OnlyLamps (s t : State) : Prop :=
  t = { s with
    left := t.left, right := t.right, grant := t.grant, grantStart := t.grantStart, progress := t.progress,
    exchange := t.exchange, passThrough := t.passThrough, counters := t.counters, nodes := t.nodes, faults := t.faults,
    faultOverflow := t.faultOverflow, replyBuffer := t.replyBuffer, handler := t.handler }

theorem OnlyFaults.trans {s t u : State} (h : OnlyFaults s t) (k : OnlyFaults t u) : OnlyFaults s u := by
  unfold OnlyFaults at *; rw [h] at k; exact k

theorem OnlyTable.trans {s t u : State} (h : OnlyTable s t) (k : OnlyTable t u) : OnlyTable s u := by
  unfold OnlyTable at *; rw [h] at k; exact k

theorem OnlySequencer.trans {s t u : State} (h : OnlySequencer s t) (k : OnlySequencer t u) : OnlySequencer s u := by
  unfold OnlySequencer at *; rw [h] at k; exact k

theorem OnlyLamps.trans {s t u : State} (h : OnlyLamps s t) (k : OnlyLamps t u) : OnlyLamps s u := by
  unfold OnlyLamps at *; rw [h] at k; exact k

theorem OnlySequencer.lamps {s t : State} (h : OnlySequencer s t) : OnlyLamps s t := by
  unfold OnlySequencer OnlyLamps at *; rw [h]

theorem OnlyJudged.trans {s t u : State} (h : OnlyJudged s t) (k : OnlyJudged t u) : OnlyJudged s u := by
  unfold OnlyJudged at *; rw [h] at k; exact k

theorem OnlyJudged.lamps {s t : State} (h : OnlyJudged s t) : OnlyLamps s t := by
  unfold OnlyJudged OnlyLamps at *; rw [h]

theorem OnlyFaults.judged {s t : State} (h : OnlyFaults s t) : OnlyJudged s t := by
  unfold OnlyFaults OnlyJudged at *; rw [h]

theorem OnlyFaults.lamps {s t : State} (h : OnlyFaults s t) : OnlyLamps s t := by
  unfold OnlyFaults OnlyLamps at *; rw [h]

/-! ## Faults and the table -/

theorem latchFault_only (kind : FaultKind) (subject : Nat) (now : Millis) (s : State) :
    OnlyFaults s (latchFault kind subject now s) := by
  unfold latchFault
  split
  · rfl
  · split <;> rfl

/-- A fault is latched alike in states with the same list and flag. -/
theorem latchFault_congr (kind : FaultKind) (subject : Nat) (now : Millis) {s t : State} (hf : t.faults = s.faults)
    (ho : t.faultOverflow = s.faultOverflow) :
    (latchFault kind subject now t).faults = (latchFault kind subject now s).faults ∧
      (latchFault kind subject now t).faultOverflow = (latchFault kind subject now s).faultOverflow := by
  unfold latchFault
  rw [hf]
  split
  · exact ⟨rfl, ho⟩
  · split
    · exact ⟨rfl, ho⟩
    · exact ⟨rfl, rfl⟩

/-- A fault latched in a state with the list and flag of another is latched as there. -/
theorem latchFault_eq (kind : FaultKind) (subject : Nat) (now : Millis) {s t : State} (hf : t.faults = s.faults)
    (ho : t.faultOverflow = s.faultOverflow) :
    latchFault kind subject now t =
      { t with
        faults := (latchFault kind subject now s).faults
        faultOverflow := (latchFault kind subject now s).faultOverflow } := by
  have only := latchFault_only kind subject now t
  have same := latchFault_congr kind subject now hf ho
  unfold OnlyFaults at only
  rw [only, same.1, same.2]

theorem latchIf_only (condition : Bool) (kind : FaultKind) (subject : Nat) (s : State) :
    OnlyFaults s (latchIf condition kind subject s) := by
  unfold latchIf
  split
  · exact latchFault_only _ _ _ _
  · rfl

theorem observe_only (x : Exposure) (o : Observation) (s : State) : OnlyTable s (observe x o s).state := by
  unfold observe removeLeaving writeObservation admitNew setSlot countEvent
  repeat' split
  all_goals rfl

/-- What the observations of a request touch (R24). -/
theorem observeAll_only (x : Exposure) (os : List Observation) (s : State) : OnlyTable s (observeAll x os s).1 := by
  induction os generalizing s with
  | nil => rfl
  | cons o os ih => exact (observe_only x o s).trans (ih _)

/-! ## The Link Sequencer -/

theorem startExchange_only (port : Head) (node : Nat) (content : BlockContent) (s : State) :
    OnlySequencer s (startExchange port node content s) := rfl

theorem setHead_only (h : Head) (hs : HeadState) (s : State) : OnlySequencer s (s.setHead h hs) := by cases h <;> rfl

theorem countEvent_only (id : CounterId) (s : State) : OnlySequencer s (countEvent id s) := rfl

theorem grantHead_only (h : Head) (s : State) : OnlySequencer s (grantHead h s) := by
  unfold grantHead
  split
  · rfl
  · cases h <;> rfl

theorem grantPass_only (p : PassThrough) (s : State) : OnlySequencer s (grantPass p s) := rfl

/-- What an arbitration touches (R119). -/
theorem arbitrate_only (s : State) : OnlySequencer s (arbitrate s) := by
  unfold arbitrate
  split
  · split
    · rfl
    · exact grantPass_only _ s
  · split
    · exact grantHead_only _ s
    · rfl

theorem requestArrived_only (s : State) : OnlySequencer s (requestArrived s) := by
  unfold requestArrived
  split
  · exact arbitrate_only s
  · rfl

/-- What the handing of a frame touches (R102). -/
theorem stageFrame_only (h : Head) (levels : List Nat) (s : State) : OnlySequencer s (stageFrame h levels s) := by
  unfold stageFrame
  refine OnlySequencer.trans ?_ (requestArrived_only _)
  refine OnlySequencer.trans (t := if (s.head h).staged.isSome then countEvent (.superseded h) s else s) ?_ (setHead_only _ _ _)
  split
  · exact countEvent_only _ _
  · rfl

/-- What a requester's arrival leaves of a staged frame: it waits still, or it has gone live under the grant of its head
(R103, R118). -/
def WaitsOrGranted (h : Head) (f : StagedFrame) (t : State) : Prop :=
  (t.head h).staged = some f ∨ (t.grant = .head h ∧ (t.head h).live = some f.levels ∧ (t.head h).staged = none)

/-- Only the staged and the live slot of a head differ, and the staged slot only by having been emptied. -/
def OnlySlots (k : Head) (s t : State) : Prop :=
  t.head k = { s.head k with staged := (t.head k).staged, live := (t.head k).live } ∧
    ((t.head k).staged = (s.head k).staged ∨ (t.head k).staged = none)

theorem requestArrived_slots (h : Head) (f : StagedFrame) (s : State) (hf : (s.head h).staged = some f) :
    WaitsOrGranted h f (requestArrived s) ∧ ∀ k, OnlySlots k s (requestArrived s) := by
  have same : WaitsOrGranted h f s ∧ ∀ k, OnlySlots k s s := ⟨.inl hf, fun _ => ⟨rfl, .inl rfl⟩⟩
  unfold requestArrived
  split
  · unfold arbitrate
    split
    · split
      · exact same
      · exact ⟨.inl (by cases h <;> exact hf), fun k => by cases k <;> exact ⟨rfl, .inl rfl⟩⟩
    · split
      · rename_i k _
        unfold grantHead
        split
        · exact same
        · rename_i g hg
          refine ⟨?_, fun j => by cases j <;> cases k <;> first | exact ⟨rfl, .inl rfl⟩ | exact ⟨rfl, .inr rfl⟩⟩
          by_cases e : k = h
          · subst e
            rw [hf] at hg
            cases hg
            exact .inr (by cases k <;> exact ⟨rfl, rfl, rfl⟩)
          · refine .inl ?_
            cases k <;> cases h <;> first | exact absurd rfl e | exact hf
      · exact same
  · exact same

/-- The handing of a frame (R102): it waits or is granted at once; of the head's other state nothing differs, and of the other
head's no more than that a grant has emptied its staged slot. -/
theorem stageFrame_slots (h : Head) (levels : List Nat) (s : State) :
    WaitsOrGranted h { levels, readyTime := s.timeBase } (stageFrame h levels s) ∧
      (stageFrame h levels s).head h = { s.head h with
        staged := ((stageFrame h levels s).head h).staged, live := ((stageFrame h levels s).head h).live } ∧
      OnlySlots h.other s (stageFrame h levels s) := by
  let counted := if (s.head h).staged.isSome then countEvent (.superseded h) s else s
  have heads : counted.left = s.left ∧ counted.right = s.right ∧ counted.timeBase = s.timeBase := by
    simp only [counted]; split <;> exact ⟨rfl, rfl, rfl⟩
  obtain ⟨hl, hr, ht⟩ := heads
  let u := counted.setHead h { counted.head h with staged := some { levels, readyTime := counted.timeBase } }
  have own : u.head h = { s.head h with staged := some { levels, readyTime := s.timeBase } } := by
    simp only [u, ht]
    cases h
    · simp only [State.setHead, State.head, hl]
    · simp only [State.setHead, State.head, hr]
  have other : u.head h.other = s.head h.other := by
    cases h
    · exact hr
    · exact hl
  obtain ⟨w, o⟩ := requestArrived_slots h { levels, readyTime := s.timeBase } u (by rw [own])
  have e := (o h).1
  have k := o h.other
  unfold OnlySlots at *
  rw [own] at e
  rw [other] at k
  exact ⟨w, e, k⟩

theorem stageDirectFrames_only (s : State) : OnlySequencer s (stageDirectFrames s) := by
  unfold stageDirectFrames
  generalize s.presentHeads = heads
  induction heads generalizing s with
  | nil => rfl
  | cons h hs ih => exact (stageFrame_only h _ s).trans (ih _)

theorem endTransfer_only (h : Head) (s : State) : OnlySequencer s (endTransfer h s) := by
  unfold endTransfer
  refine OnlySequencer.trans ?_ (arbitrate_only _)
  cases h <;> rfl

theorem truncateTransfer_only (h : Head) (s : State) : OnlySequencer s (truncateTransfer h s) := by
  unfold truncateTransfer
  refine OnlySequencer.trans ?_ (endTransfer_only h _)
  cases h <;> rfl

theorem continueTransfer_only (h : Head) (s : State) : OnlySequencer s (continueTransfer h s) := by
  unfold continueTransfer
  refine OnlySequencer.trans (t := { s with progress := s.progress + 1 }) rfl ?_
  dsimp only
  split
  · exact endTransfer_only h _
  · split
    · exact truncateTransfer_only h _
    · rfl

theorem answerHeld_only (status : Status) (part : List Byte) (s : State) :
    answerHeld status part s =
      { s with replyBuffer := (answerHeld status part s).replyBuffer, handler := (answerHeld status part s).handler } := by
  unfold answerHeld
  split <;> rfl

theorem completePass_only (o : ExchangeOutcome) (s : State) : OnlyLamps s (completePass o s) := by
  unfold completePass
  refine OnlyLamps.trans ?_ (arbitrate_only _).lamps
  rw [answerHeld_only]

/-- What the judging of an outcome touches (R130). -/
theorem nodeOutcome_only (id : Nat) (o : ExchangeOutcome) (s : State) : OnlyJudged s (nodeOutcome id o s) := by
  unfold nodeOutcome
  dsimp only
  split
  · rfl
  · split
    · refine OnlyJudged.trans ?_ (latchIf_only _ _ _ _).judged
      refine OnlyJudged.trans ?_ (latchIf_only _ _ _ _).judged
      exact OnlyJudged.trans rfl (latchIf_only _ _ _ _).judged
    · rfl
    · exact OnlyJudged.trans rfl (latchIf_only _ _ _ _).judged

/-- What the completion of an exchange touches (R117). -/
theorem completeExchange_only (x : Exchange) (o : ExchangeOutcome) (s : State) : OnlyLamps s (completeExchange x o s) := by
  unfold completeExchange
  refine OnlyLamps.trans (t := countFailure x.port o (nodeOutcome x.node o { s with exchange := none })) ?_ ?_
  · refine OnlyLamps.trans (t := { s with exchange := none }) rfl ?_
    refine OnlyLamps.trans (nodeOutcome_only x.node o _).lamps ?_
    unfold countFailure
    split
    · exact (countEvent_only _ _).lamps
    · rfl
  · dsimp only
    split
    · exact (continueTransfer_only _ _).lamps
    · exact completePass_only _ _
    · rfl

theorem receiveEchoBody_only (x : Exchange) (ended : Nat) (bytes : List Byte) (s : State) :
    OnlyLamps s (receiveEchoBody x ended bytes s) := by
  unfold receiveEchoBody
  split
  · rfl
  · rfl
  · split
    · exact completeExchange_only _ _ _
    · rfl

/-- What a byte on an echo-in line touches (R114, R115, R116). -/
theorem receiveEchoByte_only (port : Head) (b : Byte) (stopLow : Bool) (s : State) :
    OnlyLamps s (receiveEchoByte port b stopLow s) := by
  unfold receiveEchoByte
  split
  · rfl
  · split
    · rfl
    · split
      · rfl
      · split <;> rfl
      · split
        · rfl
        · exact receiveEchoBody_only _ _ _ _
      · rfl

/-- What an echo-in line touches, start bits among it. -/
theorem receiveEchoInput_only (port : Head) (input : LineInput) (stopLow : Bool) (s : State) :
    OnlyLamps s (receiveEchoInput port input stopLow s) := by
  cases input
  · simp only [receiveEchoInput, beginEchoByte]
    repeat' split
    all_goals rfl
  · exact receiveEchoByte_only port _ stopLow s

theorem finishBlock_only (s : State) : OnlyLamps s (finishBlock s) := by
  unfold finishBlock
  repeat' split
  all_goals rfl

theorem failExchange_only (s : State) : OnlyLamps s (failExchange s) := by
  unfold failExchange
  split
  · rfl
  · exact completeExchange_only _ _ _

/-! ## The Composer, the modes and the Calibration Store -/

theorem beginComposition_only (s : State) :
    beginComposition s = { s with
      slots := (beginComposition s).slots, shaper := (beginComposition s).shaper,
      composition := (beginComposition s).composition } := rfl

/-- What the end of a head stage touches (R94). -/
theorem finishHeadStage_only (s : State) :
    OnlySequencer { s with composition := (finishHeadStage s).composition } (finishHeadStage s) := by
  unfold finishHeadStage
  split
  · rfl
  · rename_i c _
    split
    · rfl
    · rename_i h rest _
      have key : OnlySequencer
          { s with composition := some (c.composed h (compositionShadows s c h) rest) }
          (stageFrame h (composedLevels s c h (compositionShadows s c h))
            { s.setHead h { s.head h with applied := composedLevels s c h (compositionShadows s c h) } with
              composition := some (c.composed h (compositionShadows s c h) rest) }) := by
        refine OnlySequencer.trans ?_ (stageFrame_only _ _ _)
        cases h <;> rfl
      unfold endHeadStage
      dsimp only
      split
      · unfold completeComposition
        rw [key]
      · rw [key]

theorem teardown_only (s : State) : teardown s = { s with
    mode := .standby, trackPending := false, sceneSeen := false, trackSeen := false, sceneTimer := none, trackTimer := none,
    slots := freeSlots, shaper := Shaper.rest, composition := none, framePhase := none, left := HeadState.rest,
    right := HeadState.rest, grant := .none, grantStart := none, progress := 0, exchange := none, passThrough := none,
    nodes := restNodes } := rfl

theorem judgeGroup_only (image : List Byte) (s : State) (g : Nat) :
    judgeGroup image s g = { s with
      tables := (judgeGroup image s g).tables, faults := (judgeGroup image s g).faults,
      faultOverflow := (judgeGroup image s g).faultOverflow } := by
  unfold judgeGroup
  split
  · rfl
  · split
    · rfl
    · unfold latch
      rw [latchFault_only]

theorem writeItems_only (table n index : Nat) (bytes : List Byte) (s : State) :
    (writeItems table n index bytes s).1 = { s with tables := (writeItems table n index bytes s).1.tables } := by
  induction n generalizing index bytes s with
  | zero => rfl
  | succ n ih =>
    unfold writeItems
    dsimp only
    split
    · rw [ih]; rfl
    · rfl

end Sys2Proof.Machine
end

