-- ==== Sys2Proof/Laws/Steps.lean ====
section
/-! SUPPORT. Steps and requests: the equations through which a statement about a command reaches the block's own
operations. -/

namespace Sys2Proof.Machine

/-! ## Steps -/

theorem step_cons {s : State} {c : Instr} {rest : List Instr} (h : s.pending = c :: rest) :
    step s = exec c { s with pending := rest } := by
  unfold step; rw [h]

theorem step_nil {s : State} (h : s.pending = []) : step s = idle s := by
  unfold step; rw [h]

/-- A step is a command, or the passing of a microsecond: what holds of both holds of every step. -/
theorem step_cases {P : Result → Prop} {s : State}
    (command : ∀ (c : Instr) (pending : List Instr) (ties : Nat), P (exec c { s with pending, ties }))
    (passing : P (.next (tick s))) : P (step s) := by
  unfold step
  split
  · exact command _ _ s.ties
  · rename_i h
    unfold idle takeFirst
    split
    · exact passing
    · rename_i e
      split at e <;> cases e
      · exact command _ s.pending s.ties
      · exact command _ s.pending _

/-- The state that a command leaves. -/
def after (c : Instr) (s : State) : State :=
  match exec c s with
  | .next t => t
  | .fault f => nomatch f
  | .refused _ => s

/-- Every command answers with a next state. -/
theorem exec_after (c : Instr) (s : State) : exec c s = .next (after c s) := by cases c <;> rfl

/-- The outcome of a command is the one state it leaves. -/
theorem exec_next_iff {c : Instr} {s t : State} : exec c s = .next t ↔ after c s = t := by
  rw [exec_after]
  exact ⟨fun h => Host.Outcome.next.inj h, fun h => h ▸ rfl⟩

/-! ## Requests -/

/-- A request row is a good frame that is offered to the queue (log 5). -/
theorem exec_request {c : Instr} {type tag : Byte} {payload : List Byte} (h : requestOf c = some (type, tag, payload))
    (s : State) : exec c s = .next (request type tag payload s) := by
  cases c <;> simp only [requestOf, Option.some.injEq, Prod.mk.injEq, reduceCtorEq] at h <;> obtain ⟨rfl, rfl, rfl⟩ := h <;> rfl

/-- A request that arrives at an IDLE Request Handler with an empty queue is served at once. -/
theorem request_ready {s : State} (h : Ready s) (type tag : Byte) (payload : List Byte) :
    request type tag payload s = serve { type, tag, payload, receipt := s.timeBase } s := by
  obtain ⟨hi, hq⟩ := h
  have key : { s with inbound := [], handler := .idle } = s := by cases s; simp_all
  unfold request offerFrame takeNext
  simp only [hi, hq, List.length_nil, List.nil_append, Nat.zero_lt_succ, if_true]
  rw [key]

/-- A request that arrives at a busy Request Handler is queued, or dropped and counted. -/
theorem request_busy {s : State} (h : s.handler ≠ .idle) (type tag : Byte) (payload : List Byte) :
    request type tag payload s =
      if s.inbound.length < 4 then
        { s with inbound := s.inbound ++ [{ type, tag, payload, receipt := s.timeBase }] }
      else countEvent .queueFullDrops s := by
  unfold request offerFrame
  split
  · unfold takeNext
    split
    · rfl
    · rfl
    · rename_i hi; exact absurd hi h
  · rfl

/-- The reply of a request, and what `answer` leaves alone. -/
theorem answer_replied (type tag : Byte) (payload : List Byte) (receipt : Millis) (status : Status) (part : List Byte)
    (s : State) : Replied type tag status part (answer { type, tag, payload, receipt } status part s) := ⟨rfl, rfl⟩

/-! A request is served by its type (R164). -/

theorem serve_scene {f : LinkFrame} (h : f.type = 1) (s : State) : serve f s = serveScene f s := by
  unfold serve; rw [h]; rfl

theorem serve_track {f : LinkFrame} (h : f.type = 2) (s : State) : serve f s = serveTrack f s := by
  unfold serve; rw [h]; rfl

theorem serve_drop {f : LinkFrame} (h : f.type = 3) (s : State) : serve f s = serveDrop f s := by
  unfold serve; rw [h]; rfl

theorem serve_mode {f : LinkFrame} (h : f.type = 4) (s : State) : serve f s = serveMode f s := by
  unfold serve; rw [h]; rfl

theorem serve_query {f : LinkFrame} (h : f.type = 5) (s : State) : serve f s = serveQuery f s := by
  unfold serve; rw [h]; rfl

theorem serve_configWrite {f : LinkFrame} (h : f.type = 6) (s : State) : serve f s = serveConfigWrite f s := by
  unfold serve; rw [h]; rfl

theorem serve_configRead {f : LinkFrame} (h : f.type = 7) (s : State) : serve f s = serveConfigRead f s := by
  unfold serve; rw [h]; rfl

theorem serve_directLevels {f : LinkFrame} (h : f.type = 8) (s : State) : serve f s = serveDirectLevels f s := by
  unfold serve; rw [h]; rfl

theorem serve_nodePass {f : LinkFrame} (h : f.type = 9) (s : State) : serve f s = serveNodePass f s := by
  unfold serve; rw [h]; rfl

theorem serve_unknown {f : LinkFrame} (h : ¬ knownType f.type) (s : State) : serve f s = answer f .unknownType [] s := by
  unfold serve
  split <;> first | rfl | (exfalso; apply h; unfold knownType; omega)

/-! ## Rounding -/

/-- A clamp to an interval. -/
theorem clampTo_eq {lo hi : Int} (h : lo ≤ hi) (x : Int) : clampTo lo hi x = max lo (min hi x) := by
  unfold clampTo
  split
  · omega
  · split <;> omega

/-! ## Calibration items (R175) -/

theorem admitted_getD {specs : List ItemSpec} {values : List Int} (h : valuesAdmitted specs values = true) {i : Nat}
    {item : ItemSpec} (hi : specs[i]? = some item) : item.lo ≤ values.getD i 0 ∧ values.getD i 0 ≤ item.hi := by
  induction specs generalizing values i with
  | nil => cases hi
  | cons spec specs ih =>
    cases values with
    | nil => cases h
    | cons value values =>
      simp only [valuesAdmitted, Bool.and_eq_true] at h
      cases i with
      | zero =>
        cases hi
        simp only [ItemSpec.admits, Bool.and_eq_true, decide_eq_true_eq] at h
        exact h.1
      | succ i => exact ih h.2 hi

/-- Every item lies in the range that its table gives it. -/
theorem item_in_range {s : State} (h : CalibrationLaw s) {t i : Nat} {item : ItemSpec} (ht : t < 8)
    (hi : (tableSpec t)[i]? = some item) : item.lo ≤ s.item t i ∧ s.item t i ≤ item.hi :=
  admitted_getD (h.2 t ht) hi

/-! ## The segment matrix -/

/-- A level array built segment by segment holds at each segment what it was built from. -/
theorem levelAt_matrixOf (f : Nat → Nat → Nat) {c r : Nat} (hc : c < 48) (hr : r < 4) :
    levelAt (matrixOf f) c r = f c r := by
  have hi : 48 * r + c < 192 := by omega
  unfold levelAt matrixOf segmentIndex
  rw [List.getD_eq_getElem?_getD, List.getElem?_map, List.getElem?_range hi]
  simp only [Option.map_some, Option.getD_some]
  congr 1 <;> omega

theorem length_matrixOf (f : Nat → Nat → Nat) : (matrixOf f).length = 192 := by simp [matrixOf]

end Sys2Proof.Machine
end

