-- ==== Sys2Proof/Laws/Moments.lean ====
section
/-! SUPPORT. Time and the moments of the block's own: what `momentOf`, `firstMoment`, `takeFirst` and `runTo` can do, to be cited
in place of unfolding them. -/

namespace Sys2Proof.Machine

/-! ## Time -/

/-- After time has passed to a deadline's microsecond, the time base stands at the deadline. -/
theorem timeBase_passTo_microsAt (d : Millis) (s : State) : (passTo (s.microsAt d) s).timeBase = d := by
  unfold passTo State.microsAt
  by_cases h : s.timeBase = d
  · simp only [h, if_true, Nat.max_self]
  · simp only [h, if_false]
    unfold State.timeBase at *
    have pos : 0 < (d - BitVec.ofNat 32 (s.micros / 1000)).toNat := by
      rcases Nat.eq_zero_or_pos (d - BitVec.ofNat 32 (s.micros / 1000)).toNat with h0 | h0
      · exact absurd (BitVec.eq_of_toNat_eq (by
          have := BitVec.toNat_sub d (BitVec.ofNat 32 (s.micros / 1000))
          have := d.isLt
          have := (BitVec.ofNat 32 (s.micros / 1000)).isLt
          omega)) h
      · exact h0
    have le : s.micros ≤ (s.micros / 1000 + (d - BitVec.ofNat 32 (s.micros / 1000)).toNat) * 1000 := by omega
    rw [Nat.max_eq_right le, Nat.mul_div_cancel _ (by decide)]
    apply BitVec.eq_of_toNat_eq
    have := BitVec.toNat_sub d (BitVec.ofNat 32 (s.micros / 1000))
    have := d.isLt
    simp only [BitVec.toNat_ofNat] at *
    omega

/-- A deadline's microsecond is not past. -/
theorem micros_le_microsAt (d : Millis) (s : State) : s.micros ≤ s.microsAt d := by
  unfold State.microsAt
  split
  · exact Nat.le_refl _
  · rename_i h
    unfold State.timeBase at *
    have pos : 0 < (d - BitVec.ofNat 32 (s.micros / 1000)).toNat := by
      rcases Nat.eq_zero_or_pos (d - BitVec.ofNat 32 (s.micros / 1000)).toNat with h0 | h0
      · exact absurd (BitVec.eq_of_toNat_eq (by
          have := BitVec.toNat_sub d (BitVec.ofNat 32 (s.micros / 1000))
          have := d.isLt
          have := (BitVec.ofNat 32 (s.micros / 1000)).isLt
          omega)) h
      · exact h0
    omega

/-! ## When -/

theorem momentOf_eq_some {c : Instr} {s : State} {t : Nat} :
    momentOf c s = some t ↔ ∃ u, causeAt c s = some u ∧ max s.micros u = t := by
  unfold momentOf
  exact Option.map_eq_some_iff

/-- Only the ten commands of `ownCommands` have a moment. -/
theorem mem_ownCommands {c : Instr} {s : State} {t : Nat} (h : momentOf c s = some t) : c ∈ ownCommands := by
  obtain ⟨u, hu, _⟩ := momentOf_eq_some.1 h
  cases c <;> first | (simp only [causeAt, reduceCtorEq] at hu; done) | decide

/-- A moment is not past. -/
theorem micros_le_momentOf {c : Instr} {s : State} {t : Nat} (h : momentOf c s = some t) : s.micros ≤ t := by
  obtain ⟨u, _, rfl⟩ := momentOf_eq_some.1 h
  exact Nat.le_max_left _ _

theorem mem_commandsAt {c : Instr} {m : Nat} {s : State} : c ∈ commandsAt m s ↔ momentOf c s = some m := by
  unfold commandsAt
  rw [List.mem_filter, decide_eq_true_eq]
  exact ⟨And.right, fun h => ⟨mem_ownCommands h, h⟩⟩

theorem mem_dueMoments {c : Instr} {s : State} : c ∈ dueMoments s ↔ momentOf c s = some s.micros := mem_commandsAt

/-- Nothing is due exactly when every moment lies ahead. -/
theorem dueMoments_eq_nil {s : State} : dueMoments s = [] ↔ ∀ c t, momentOf c s = some t → s.micros < t := by
  rw [List.eq_nil_iff_forall_not_mem]
  constructor
  · intro h c t e
    rcases Nat.lt_or_eq_of_le (micros_le_momentOf e) with l | rfl
    · exact l
    · exact absurd (mem_dueMoments.2 e) (h c)
  · intro h c hc
    exact absurd (h c _ (mem_dueMoments.1 hc)) (Nat.lt_irrefl _)

theorem foldl_min (l : List Nat) (t : Nat) :
    l.foldl min t ≤ t ∧ (∀ m ∈ l, l.foldl min t ≤ m) ∧ (l.foldl min t = t ∨ l.foldl min t ∈ l) := by
  induction l generalizing t with
  | nil => exact ⟨Nat.le_refl _, nofun, .inl rfl⟩
  | cons a l ih =>
    obtain ⟨h1, h2, h3⟩ := ih (min t a)
    simp only [List.foldl_cons, List.mem_cons]
    refine ⟨by omega, ?_, ?_⟩
    · rintro m (rfl | hm)
      · omega
      · exact h2 m hm
    · rcases h3 with h3 | h3
      · rw [h3]
        rcases Nat.le_total t a with h | h
        · exact .inl (Nat.min_eq_left h)
        · exact .inr (.inl (Nat.min_eq_right h))
      · exact .inr (.inr h3)

theorem firstMoment_le (t : Nat) (s : State) : firstMoment t s ≤ t := (foldl_min _ t).1

/-- No moment of the block's own lies before the first. -/
theorem firstMoment_le_momentOf {t m : Nat} {c : Instr} {s : State} (h : momentOf c s = some m) : firstMoment t s ≤ m :=
  (foldl_min _ t).2.1 m (List.mem_filterMap.2 ⟨c, mem_ownCommands h, h⟩)

theorem micros_le_firstMoment {t : Nat} {s : State} (h : s.micros ≤ t) : s.micros ≤ firstMoment t s := by
  rcases (foldl_min (ownCommands.filterMap fun c => momentOf c s) t).2.2 with e | e
  · unfold firstMoment; rw [e]; exact h
  · obtain ⟨c, _, hc⟩ := List.mem_filterMap.1 e
    exact micros_le_momentOf hc

/-- With no moment before `t`, the first is `t`. -/
theorem firstMoment_eq {t : Nat} {s : State} (h : ∀ d m, momentOf d s = some m → t ≤ m) : firstMoment t s = t := by
  rcases (foldl_min (ownCommands.filterMap fun c => momentOf c s) t).2.2 with e | e
  · exact e
  · obtain ⟨c, _, hc⟩ := List.mem_filterMap.1 e
    exact Nat.le_antisymm (firstMoment_le t s) (h c _ hc)

/-- A first moment before `t` is that of some command. -/
theorem exists_firstMoment {t : Nat} {s : State} (h : firstMoment t s ≠ t) : ∃ d, momentOf d s = some (firstMoment t s) := by
  rcases (foldl_min (ownCommands.filterMap fun c => momentOf c s) t).2.2 with e | e
  · exact absurd e h
  · obtain ⟨c, _, hc⟩ := List.mem_filterMap.1 e
    exact ⟨c, hc⟩

/-- Moments do not depend on the queue, nor on the count of ties. -/
theorem momentOf_congr (c : Instr) (s : State) (pending : List Instr) (ties : Nat) :
    momentOf c { s with pending, ties } = momentOf c s := by cases c <;> rfl

/-- `Undisturbed` is checked over the ten commands. -/
theorem undisturbed_of_own {c : Instr} {s : State}
    (h : (ownCommands.all fun d => (momentOf c s).all fun t => (momentOf d s).all fun m => decide (t ≤ m)) = true) :
    Undisturbed c s := by
  intro d t m hc hd
  have := List.all_eq_true.1 h d (mem_ownCommands hd)
  rw [hc, hd] at this
  exact of_decide_eq_true this

/-! ## What happens -/

theorem takeFirst_nil (s : State) : takeFirst [] s = none := rfl

theorem takeFirst_one (c : Instr) (s : State) : takeFirst [c] s = some (c, s) := rfl

/-- The moment taken is one of those at the time; with more than one the tie is counted. -/
theorem takeFirst_some {cs : List Instr} {s u : State} {d : Instr} (h : takeFirst cs s = some (d, u)) :
    d ∈ cs ∧ u = { s with ties := if cs.length = 1 then s.ties else s.ties + 1 } := by
  unfold takeFirst at h
  split at h
  · cases h
  · cases h; exact ⟨.head _, rfl⟩
  · rename_i c e rest
    simp only [Option.some.injEq, Prod.mk.injEq] at h
    obtain ⟨rfl, rfl⟩ := h
    refine ⟨?_, by simp⟩
    have l : Config.tieOrder s.ties % (c :: e :: rest).length < (c :: e :: rest).length := Nat.mod_lt _ (Nat.succ_pos _)
    rw [List.getD_eq_getElem?_getD, List.getElem?_eq_getElem l]
    exact List.getElem_mem l

theorem runTo_none {c : Instr} {s : State} (h : momentOf c s = none) (n : Nat) : runTo n c s = s := by
  cases n with
  | zero => rfl
  | succ n => unfold runTo; rw [h]

/-- With no moment before its own a command happens at its moment. -/
theorem runTo_undisturbed {c : Instr} {s : State} {t : Nat} (h : momentOf c s = some t)
    (first : ∀ d m, momentOf d s = some m → t ≤ m) (n : Nat) : runTo (n + 1) c s = happen c (passTo t s) := by
  unfold runTo
  rw [h]
  simp only [firstMoment_eq first, if_true]

/-- The one moment that comes first is taken on the way. -/
theorem runTo_course {c d : Instr} {s : State} {t m : Nat} (hc : momentOf c s = some t) (hd : momentOf d s = some m)
    (lt : m < t) (first : ∀ e k, momentOf e s = some k → e ≠ d → m < k) (n : Nat) :
    runTo (n + 1) c s = runTo n c (happen d (passTo m s)) := by
  have le : ∀ e k, momentOf e s = some k → m ≤ k := by
    intro e k he
    by_cases eq : e = d
    · subst eq; rw [hd] at he; cases he; exact Nat.le_refl _
    · exact Nat.le_of_lt (first e k he eq)
  have ne : firstMoment t s ≠ t := fun e => by have := firstMoment_le_momentOf (t := t) hd; omega
  have fm : firstMoment t s = m := by
    obtain ⟨e, he⟩ := exists_firstMoment ne
    exact Nat.le_antisymm (firstMoment_le_momentOf hd) (le e _ he)
  have one : commandsAt m s = [d] := by
    have all : ∀ e, e ∈ commandsAt m s → e = d := by
      intro e he
      apply Decidable.byContradiction
      intro eq
      exact absurd (first e m (mem_commandsAt.1 he) eq) (Nat.lt_irrefl _)
    have nodup : (commandsAt m s).Nodup := List.Pairwise.filter _ (by decide : ownCommands.Nodup)
    have mem : d ∈ commandsAt m s := mem_commandsAt.2 hd
    match e : commandsAt m s with
    | [] => rw [e] at mem; exact nomatch mem
    | [a] => rw [e] at all; rw [all a (.head _)]
    | a :: b :: l =>
      rw [e] at all nodup
      rw [all a (.head _), all b (.tail _ (.head _))] at nodup
      exact absurd nodup (by simp)
  rw [runTo, hc]
  simp only [ne, if_false]
  rw [fm, one, takeFirst_one]

/-- What holds of a state, is kept by the counting of a tie, and is kept by every moment that no other comes before, holds at
the end of a course. -/
theorem runTo_induction {P : State → Prop} (tie : ∀ s, P s → P { s with ties := s.ties + 1 })
    (moment : ∀ d t s, P s → momentOf d s = some t → (∀ e m, momentOf e s = some m → t ≤ m) → P (happen d (passTo t s)))
    (n : Nat) (c : Instr) (s : State) (h : P s) : P (runTo n c s) := by
  induction n generalizing s with
  | zero => exact h
  | succ n ih =>
    unfold runTo
    split
    · exact h
    · rename_i t ht
      split
      · rename_i e
        exact moment c t s h ht fun d m hd => by have := firstMoment_le_momentOf (t := t) hd; omega
      · rename_i ne
        split
        · exact h
        · rename_i d u hu
          obtain ⟨hd, rfl⟩ := takeFirst_some hu
          refine ih _ (moment d _ _ ?_ ?_ ?_)
          · split
            · exact h
            · exact tie s h
          · exact (momentOf_congr d s s.pending _).trans (mem_commandsAt.1 hd)
          · intro e m he
            exact firstMoment_le_momentOf ((momentOf_congr e s s.pending _).symm.trans he)

/-! ## The commands for moments of the block's own -/

theorem exec_own {c : Instr} (h : c ∈ ownCommands) (s : State) : exec c s = .next (runTo courseLimit c s) := by
  simp only [ownCommands, List.mem_cons, List.not_mem_nil, or_false] at h
  rcases h with rfl | rfl | rfl | rfl | rfl | rfl | rfl | rfl | rfl | rfl <;> rfl

/-- A command without a cause changes nothing. -/
theorem exec_causeless {c : Instr} {s : State} (own : c ∈ ownCommands) (h : momentOf c s = none) : exec c s = .next s := by
  rw [exec_own own, runTo_none h]

/-- A command that nothing comes before happens at its moment. -/
theorem exec_undisturbed {c : Instr} {s : State} {t : Nat} (h : momentOf c s = some t) (first : Undisturbed c s) :
    exec c s = .next (happen c (passTo t s)) := by
  rw [exec_own (mem_ownCommands h), courseLimit, runTo_undisturbed h fun d m hd => first d t m h hd]

/-- The same, from the microsecond of the cause. -/
theorem exec_at {c : Instr} {s : State} {u : Nat} (h : causeAt c s = some u) (first : Undisturbed c s) :
    exec c s = .next (happen c { s with micros := max s.micros u }) := by
  rw [exec_undisturbed (t := max s.micros u) (by rw [momentOf, h]; rfl) first]
  unfold passTo
  rw [Nat.max_eq_right (Nat.le_max_left _ _)]

/-- The same, for a command without a cause. -/
theorem exec_without {c : Instr} {s : State} (own : c ∈ ownCommands) (h : causeAt c s = none) : exec c s = .next s :=
  exec_causeless own (by rw [momentOf, h]; rfl)

end Sys2Proof.Machine
end

