-- ==== Sys2Proof/Laws/Clock.lean ====
section
/-! SUPPORT. What no command but RESET changes: the queue and the strap, and the time and the ties but in a course of moments. -/

namespace Sys2Proof.Machine

/-- What belongs to no block is alike: the queue, the ties, the time and the strap. -/
abbrev SameClock (s t : State) : Prop :=
  t.pending = s.pending ∧ t.ties = s.ties ∧ t.micros = s.micros ∧ t.trafficSideHigh = s.trafficSideHigh

theorem SameClock.refl (s : State) : SameClock s s := ⟨rfl, rfl, rfl, rfl⟩

theorem SameClock.trans {s t u : State} (h : SameClock s t) (k : SameClock t u) : SameClock s u :=
  ⟨k.1.trans h.1, k.2.1.trans h.2.1, k.2.2.1.trans h.2.2.1, k.2.2.2.trans h.2.2.2⟩

theorem SameClock.answer {s t : State} (h : SameClock s t) (f : LinkFrame) (status : Status) (part : List Byte) :
    SameClock s (answer f status part t) := h

theorem OnlySequencer.clock {s t : State} (h : OnlySequencer s t) : SameClock s t := by
  unfold OnlySequencer at h; rw [h]; exact ⟨rfl, rfl, rfl, rfl⟩

theorem OnlyTable.clock {s t : State} (h : OnlyTable s t) : SameClock s t := by
  unfold OnlyTable at h; rw [h]; exact ⟨rfl, rfl, rfl, rfl⟩

theorem OnlyFaults.clock {s t : State} (h : OnlyFaults s t) : SameClock s t := by
  unfold OnlyFaults at h; rw [h]; exact ⟨rfl, rfl, rfl, rfl⟩

theorem abortDirect_clock (s : State) : SameClock s (abortDirect s) := by
  unfold abortDirect
  rw [answerHeld_only]
  exact (latchFault_only _ _ _ _).clock

theorem recoverIfSeen_clock (s : State) : SameClock s (recoverIfSeen s) := by
  unfold recoverIfSeen; split <;> exact ⟨rfl, rfl, rfl, rfl⟩

theorem afterSceneAccepted_clock (s : State) : SameClock s (afterSceneAccepted s) := by
  unfold afterSceneAccepted
  split
  · exact .refl s
  · exact .refl s
  · exact .refl s
  · exact SameClock.trans (t := { s with sceneSeen := true }) ⟨rfl, rfl, rfl, rfl⟩ (recoverIfSeen_clock _)
  · split
    · exact abortDirect_clock s
    · exact .refl s

theorem afterTrackAccepted_clock (s : State) : SameClock s (afterTrackAccepted s) := by
  unfold afterTrackAccepted
  split
  · exact .refl s
  · exact SameClock.trans (t := { s with trackSeen := true }) ⟨rfl, rfl, rfl, rfl⟩ (recoverIfSeen_clock _)
  all_goals exact .refl s

/-- A request is taken in no time (R163). -/
theorem serve_clock (f : LinkFrame) (s : State) : SameClock s (serve f s) := by
  unfold serve
  split
  · unfold serveScene acceptScene
    repeat' split
    · exact .refl s
    · exact .refl s
    · exact (SameClock.trans (t := { s with scene := (takeScene f.payload s.timeBase s.scene).1 }) (.refl s)
        (afterSceneAccepted_clock _)).answer _ _ _
  · unfold serveTrack acceptTrack
    repeat' split
    · exact .refl s
    · exact .refl s
    · exact .refl s
    · exact SameClock.trans (t := afterTrackAccepted { s with lastTrackTime := s.timeBase, trackAccepted := true })
        (afterTrackAccepted_clock _) (observeAll_only _ _ _).clock
  · unfold serveDrop dropEntries
    repeat' split
    all_goals exact .refl s
  · unfold serveMode modeToStandby modeToActive modeToDirect activate directIfSlow
    repeat' split
    all_goals exact .refl s
  · unfold serveQuery answerQuery queryShadows queryLevels
    repeat' split
    all_goals exact .refl s
  · unfold serveConfigWrite
    dsimp only
    repeat' split
    · exact .refl s
    · exact .refl s
    · exact .refl s
    all_goals
      refine SameClock.answer ?_ _ _ _
      rw [writeItems_only]
      exact .refl s
  · unfold serveConfigRead
    dsimp only
    repeat' split
    all_goals exact .refl s
  · unfold serveDirectLevels
    repeat' split
    all_goals first | exact .refl s | (unfold writeDirect; exact (setHead_only _ _ _).clock)
  · unfold serveNodePass holdPass
    repeat' split
    · exact .refl s
    · exact .refl s
    · exact .refl s
    · exact (requestArrived_only _).clock
  · exact .refl s

theorem takeNext_clock (s : State) : SameClock s (takeNext s) := by
  unfold takeNext
  repeat' split
  · exact .refl s
  · exact .refl s
  · exact .refl s
  · exact serve_clock _ _

theorem offerFrame_clock (f : LinkFrame) (s : State) : SameClock s (offerFrame f s) := by
  unfold offerFrame
  split
  · exact takeNext_clock _
  · exact .refl s

theorem OnlyLamps.clock {s t : State} (h : OnlyLamps s t) : SameClock s t := by
  unfold OnlyLamps at h; rw [h]; exact ⟨rfl, rfl, rfl, rfl⟩

theorem finishReply_clock (s : State) : SameClock s (finishReply s) := takeNext_clock _

/-- A byte on the vehicle link is taken in no time (log 11). -/
theorem receiveLinkByte_clock (b : Byte) (framingError : Bool) (s : State) :
    SameClock s (receiveLinkByte b framingError s) := by
  simp only [receiveLinkByte]
  unfold faultyByte goodByte headerByte payloadByte crcByte completeFrame
  repeat' split
  all_goals first
    | exact .refl s
    | (dsimp only
       split
       · refine SameClock.trans ?_ (offerFrame_clock _ _)
         exact .refl s
       · exact .refl s)

theorem finishHeadStage_clock (s : State) : SameClock s (finishHeadStage s) := (finishHeadStage_only s).clock

theorem judgeGroups_clock (image : List Byte) (groups : List Nat) (s : State) :
    SameClock s (groups.foldl (judgeGroup image) s) := by
  induction groups generalizing s with
  | nil => exact .refl s
  | cons g gs ih =>
    refine SameClock.trans ?_ (ih _)
    rw [judgeGroup_only]
    exact .refl s

theorem failAutoload_clock (s : State) : SameClock s (failAutoload s) := by
  have latched := (latchFault_only .calAbsent 0 s.timeBase { s with holdingBuffer := [], tables := defaultTables }).clock
  exact latched

theorem finishAutoload_clock (image : List Byte) (s : State) : SameClock s (finishAutoload image s) := by
  unfold finishAutoload
  repeat' split
  · exact .refl s
  · exact failAutoload_clock s
  · exact judgeGroups_clock image (List.range 8) { s with holdingBuffer := image }
  · exact .refl s

theorem enterSafe_clock (s : State) : SameClock s (enterSafe s) := .refl s

/-- What happens at a moment takes no time. -/
theorem happen_clock (c : Instr) (s : State) : SameClock s (happen c s) := by
  unfold happen
  split
  · exact failAutoload_clock s
  · unfold sceneTimerExpired
    split
    · exact (latchFault_only .sceneLost 0 s.timeBase s).clock
    · exact abortDirect_clock s
    all_goals exact .refl s
  · unfold trackTimerExpired
    split
    · exact (latchFault_only .trackLost 0 s.timeBase s).clock
    all_goals exact .refl s
  · unfold frameClock takeFrameStart
    repeat' split
    all_goals first | exact .refl s | exact (stageDirectFrames_only _).clock
  · exact .refl s
  · exact finishReply_clock s
  · exact (finishBlock_only s).clock
  · exact (failExchange_only s).clock
  · exact (failExchange_only s).clock
  · exact (failExchange_only s).clock
  · exact .refl s

/-- A course of moments leaves the queue and the strap, and moves the time and the ties on. -/
theorem runTo_clock (n : Nat) (c : Instr) (s : State) :
    (runTo n c s).pending = s.pending ∧ (runTo n c s).trafficSideHigh = s.trafficSideHigh ∧
      s.micros ≤ (runTo n c s).micros ∧ s.ties ≤ (runTo n c s).ties := by
  refine runTo_induction (P := fun u => u.pending = s.pending ∧ u.trafficSideHigh = s.trafficSideHigh ∧
    s.micros ≤ u.micros ∧ s.ties ≤ u.ties) ?_ ?_ n c s ⟨rfl, rfl, Nat.le_refl _, Nat.le_refl _⟩
  · rintro u ⟨h1, h2, h3, h4⟩
    exact ⟨h1, h2, h3, Nat.le_succ_of_le h4⟩
  · rintro d t u ⟨h1, h2, h3, h4⟩ _ _
    obtain ⟨k1, k2, k3, k4⟩ := happen_clock d (passTo t u)
    exact ⟨k1.trans h1, k4.trans h2, k3 ▸ Nat.le_trans h3 (Nat.le_max_left _ _), k2 ▸ h4⟩

/-- A command that is neither RESET nor one for a moment of the block's own takes no time. -/
theorem after_clock {c : Instr} (s : State) (own : c ∉ ownCommands) (noReset : ∀ strap, c ≠ .reset strap) :
    SameClock s (after c s) := by
  cases c
  case reset strap => exact absurd rfl (noReset strap)
  case autoloadReadComplete image => exact finishAutoload_clock image s
  case eepromNoAcknowledge =>
    show SameClock s (missAcknowledge s)
    unfold missAcknowledge
    split
    · exact .refl s
    · exact failAutoload_clock s
  case frameReceived b => exact receiveLinkByte_clock b false s
  case frameAbandoned b framingError => exact receiveLinkByte_clock b framingError s
  case linkByteReceived input =>
    cases input
    · exact .refl s
    · exact receiveLinkByte_clock _ false s
  case headStageComplete => exact finishHeadStage_clock s
  case echoReceived port b => exact (receiveEchoByte_only port b false s).clock
  case echoByteReceived port input stopLow => exact (receiveEchoInput_only port input stopLow s).clock
  all_goals first | exact offerFrame_clock _ s | exact absurd (by decide) own

end Sys2Proof.Machine
end

