-- ==== Sys2Proof/Tests/Slice0.lean ====
section
/-! SUPPORT. Tests on fixed values: the operand checks, values that the spec works out, one step of commands of each family, and
for each statement with hypotheses a state and operands that meet them, clause by clause. -/

namespace Sys2Proof.Tests

open Sys2Proof.Machine

-- One test after another: each waits for the kernel, and a thread for each of them would be many threads.
set_option Elab.async false

/-! ## Small states -/

/-- STANDBY with every table at its defaults. -/
def standby : State := { State.reset with mode := .standby, autoload := none }

/-- ACTIVE, 8 ms after the tables were loaded. -/
def active : State := enterActive { standby with micros := 8000 }

/-- SAFE, entered from there. -/
def safe : State := enterSafe active

/-- DIRECT at a known speed of 5.0 km/h. -/
def direct : State :=
  enterDirect { standby with scene := { SceneRecord.reset with speed := 50, speedKnown := true, accepted := true } }

/-- ACTIVE, 2 ms before the scene timer's deadline, with the next frame start 6 ms behind it. -/
def nearDeadline : State := { active with micros := 256000, framePhase := some 264 }

/-- Inside a frame, a number of microseconds after its last byte. -/
def silentFor (n : Nat) (framer : FramerState) : State := { standby with framer, rxBytes := [1], micros := n }

/-- A reply of nine payload bytes is on the line. -/
def replying (s : State) : State := answer { type := 5, tag := 0, payload := [1], receipt := 0 } .ok [] s

/-- The queue holds `n` frames. -/
def queued (n : Nat) (s : State) : State :=
  { s with inbound := List.replicate n { type := 4, tag := 9, payload := [0], receipt := 0 } }

/-- An oncoming car with an id, in a state. -/
def car (id : Nat) (state : EntryState) : Entry :=
  { id, cls := 0, tier := 3, azL := -32, azR := 15, rate := 0, elevB := -16, elevT := 15, range := 600, confidence := 9,
    obsTime := 0, hits := 3, state }

/-- Every slot is taken, by ids 1 to 16. -/
def full (state : EntryState) (s : State) : State :=
  { s with slots := (List.range 16).map fun i => some (car (i + 1) state) }

/-- The observation of a car with an id. -/
def seen (id : Nat) (leaving : Bool) : Observation :=
  { id, cls := 0, azL := -32, azR := 15, rate := 0, elevBottom := -16, elevTop := 15, range := 600, confidence := 4, leaving }

/-- An exposure at time 0 with no cab pitch. -/
def exposed : Exposure := { obsTime := 0, cabPitch := 0 }

/-- An exchange with node 1 on the left port. -/
def exchangeIn (content : BlockContent) (phase : ExchangePhase) : Exchange :=
  { port := .left, node := 1, content, startedAt := 0, phase }

/-- A levels exchange in a phase, under the left head's grant with the right head's frame waiting. -/
def sending (phase : ExchangePhase) (s : State) : State :=
  { s with
    grant := .head .left, grantStart := some 0, exchange := some (exchangeIn (.levels (List.replicate 16 0)) phase)
    left := { s.left with live := some darkFrame }
    right := { s.right with staged := some { levels := darkFrame, readyTime := 0 } } }

/-- A pass-through of one byte to node 1 in a phase, and the NODE PASS that the Request Handler holds. -/
def passing (phase : ExchangePhase) (s : State) : State :=
  { s with
    grant := .pass, grantStart := some 0, exchange := some (exchangeIn (.service [7]) phase)
    passThrough := some { node := 1, bytes := [7], inFlight := true }
    handler := .serving { type := 9, tag := 3, payload := [1, 7], receipt := 0 } }

/-- Node 1 in a state with its counts. -/
def nodeIn (state : NodeState) (mismatchCount failCount : Nat) (s : State) : State :=
  setNode 1 { state, mismatchCount, failCount, lastEcho := none } s

/-- A composition in the ENVELOPE pattern, at a frame start of 8 ms. -/
def composing (remaining : List Head) (s : State) : State :=
  { s with
    composition := some
      { frameStart := 8, pattern := .envelope, targets := [some (car 1 .active)],
        scene := { speed := 0, speedKnown := false, yawRate := 0, yawValid := false, chassisPitch := 0, highBeam := true },
        results := { profile := .country, bendLeft := 0, bendRight := 0, darkRows := [], highBeam := true },
        remaining, shadowsLeft := [], shadowsRight := [] } }

/-- The scene snapshot at a speed. -/
def snapshotAt (speed : Nat) (speedKnown : Bool) : SceneSnapshot :=
  { speed, speedKnown, yawRate := 100, yawValid := true, chassisPitch := 0, highBeam := true }

/-- The default image with a guard word. -/
def imageWith (hi lo : Byte) : List Byte :=
  hi :: lo :: defaultTables.flatMap fun items =>
    items.flatMap bytesOfInt16 ++ [crc8 (items.flatMap bytesOfInt16)]

/-- A request of `n` zero bytes. -/
def zeros (n : Nat) : List Byte := List.replicate n 0

/-! ## The operand checks: an ill-formed term for each, refused -/

theorem test_illformed_imageLength : (Instr.autoloadReadComplete (zeros 441)).wellFormed = false := by decide +kernel
theorem test_illformed_abandonedBy240 : (Instr.frameAbandoned 240 false).wellFormed = false := by decide
theorem test_illformed_knownType : (Instr.unknownType 9 0 []).wellFormed = false ∧ (Instr.unknownType 1 0 []).wellFormed = false := by
  decide
theorem test_illformed_unknownTypePayload : (Instr.unknownType 10 0 (zeros 241)).wellFormed = false := by decide +kernel
theorem test_illformed_requestPayloads :
    (Instr.scene 0 (zeros 241)).wellFormed = false ∧ (Instr.track 0 (zeros 241)).wellFormed = false ∧
      (Instr.drop 0 (zeros 241)).wellFormed = false ∧ (Instr.configWrite 0 (zeros 241)).wellFormed = false ∧
      (Instr.configRead 0 (zeros 241)).wellFormed = false ∧ (Instr.directLevels 0 (zeros 241)).wellFormed = false ∧
      (Instr.nodePass 0 (zeros 241)).wellFormed = false := by decide +kernel
theorem test_illformed_queryParameters :
    (Instr.querySummary 0 (zeros 240)).wellFormed = false ∧ (Instr.queryTargets 0 (zeros 240)).wellFormed = false ∧
      (Instr.queryShadows 0 (zeros 240)).wellFormed = false ∧ (Instr.queryNodes 0 (zeros 240)).wellFormed = false ∧
      (Instr.queryLevels 0 (zeros 240)).wellFormed = false ∧ (Instr.queryFaults 0 (zeros 240)).wellFormed = false ∧
      (Instr.queryCounters 0 (zeros 240)).wellFormed = false := by decide +kernel
theorem test_illformed_startBitWithStopBit : (Instr.echoByteReceived .left .startBit true).wellFormed = false := by decide
theorem test_illformed_queryKindKnown : (Instr.queryNoKind 0 [6]).wellFormed = false := by decide
theorem test_illformed_queryNoKindPayload : (Instr.queryNoKind 0 (7 :: zeros 240)).wellFormed = false := by decide +kernel
theorem test_illformed_modeTargetKnown : (Instr.modeNoTarget 0 [2]).wellFormed = false := by decide
theorem test_illformed_modeNoTargetPayload : (Instr.modeNoTarget 0 (zeros 241)).wellFormed = false := by decide +kernel
theorem test_wellformed_boundaries :
    (Instr.autoloadReadComplete (zeros 442)).wellFormed = true ∧ (Instr.frameAbandoned 241 false).wellFormed = true ∧
      (Instr.unknownType 10 0 (zeros 240)).wellFormed = true ∧ (Instr.queryNoKind 0 []).wellFormed = true ∧
      (Instr.modeNoTarget 0 [3]).wellFormed = true ∧ (Instr.scene 0 (zeros 240)).wellFormed = true := by decide +kernel

/-! ## Values that the spec works out -/

/-- The sampling examples of chapter 5. -/
theorem test_columnLevel_examples :
    columnLevel standby .country 160 22 = 1023 ∧ columnLevel standby .country 160 21 = 512 ∧
      columnLevel standby .country 40 14 = 767 ∧ columnLevel standby .country 40 2 = 64 ∧
      columnLevel standby .country 40 0 = 0 ∧ columnLevel standby .country 100 18 = 895 ∧
      columnLevel standby .country (-100) 29 = 895 := by decide +kernel

/-- The parallax table under R50. -/
theorem test_parallax_examples :
    [2000, 600, 100].map (fun range => parallax standby .right { car 1 .active with range }) = [8, 26, 156] ∧
      [2000, 600, 100].map (fun range => parallax standby .left { car 1 .active with range }) = [-8, -26, -156] := by
  decide +kernel

/-- The preceding car of range 0 of R54, off the matrix at 420 au and clipped at 360 au. -/
theorem test_window_examples :
    windowOf standby .left 0 { car 1 .active with tier := 2, azL := 420, azR := 440, range := 0 } = none ∧
      (windowOf standby .left 0 { car 1 .active with tier := 2, azL := 360, azR := 440, range := 0 }).map
        (fun w => (w.first, w.last)) = some (44, 47) := by decide +kernel

/-- An image whose guard word has group 0 written loads that group, and one with a spoilt CRC-8 leaves its fault. -/
theorem test_image_isJudged :
    (imageWith 0x40 0x00).length = 442 ∧ groupSound (imageWith 0x40 0x00) 0 = true ∧
      (after (.autoloadReadComplete (imageWith 0x40 0x00)) State.reset).mode = .standby ∧
      (after (.autoloadReadComplete ((imageWith 0x40 0x00).set 16 0)) State.reset).faults.map FaultRecord.kind =
        [.calGroupDefaulted] := by decide +kernel

/-! ## One step of commands of each family -/

theorem test_reset_samplesTheStrap : (after (.reset true) active).oncoming = .right ∧ (after (.reset true) active).mode = .start := by
  decide +kernel
theorem test_eepromNoAcknowledge : (after .eepromNoAcknowledge State.reset).faults.map FaultRecord.kind = [.calAbsent] := by
  decide +kernel
theorem test_autoloadTimeout : (after .autoloadTimeout State.reset).timeBase = 500 := by decide +kernel
theorem test_autoload_lateImage :
    (after (.autoloadReadComplete (imageWith 0x40 0x00)) { State.reset with micros := 500001 }).faults.map FaultRecord.kind =
      [.calAbsent] := by decide +kernel
theorem test_frameStart_takesTheDeadlineOnTheWay :
    let t := after .frameStart nearDeadline
    t.mode = .safe ∧ t.faults.map (fun r => (r.kind, r.firstTime)) = [(.sceneLost, 258)] ∧ t.micros = 264000 ∧
      t.composition.map Machine.Composition.frameStart = some 264 := by decide +kernel
theorem test_frameSilence_isFound :
    dueMoments (silentFor 39 .header) = [] ∧ dueMoments (silentFor 40 .header) = [.frameSilenceTimeout] ∧
      dueMoments (silentFor 40 .pair) = [] := by decide +kernel
/-- A byte whose start bit comes 39 µs after the last byte of a frame, and one whose start bit comes 19 µs after the last byte of an
echo, break the silence, however late they are whole. -/
theorem test_silence_isBrokenByAStartBit :
    (let begun := after (.linkByteReceived .startBit) (silentFor 39 .header)
     dueMoments { begun with micros := 49 } = [] ∧
       (after (.linkByteReceived (.byte 2)) { begun with micros := 49 }).rxBytes = [1, 2]) ∧
    let begun := after (.echoByteReceived .left .startBit false)
      { sending (.receiving 7900 [0xE2] (some 8000)) active with micros := 8019 }
    dueMoments { sending (.receiving 7900 [0xE2] (some 8000)) active with micros := 8020 } = [.echoSilenceTimeout] ∧
      dueMoments { begun with micros := 8020 } = [] ∧
      (after (.echoByteReceived .left (.byte 1) false) { begun with micros := 8024 }).exchange.map Exchange.phase =
        some (.receiving 7900 [0xE2, 1] (some 8024)) := by decide +kernel
theorem test_linkByte_pair : (after (.linkByteReceived (.byte 0xB4)) standby).framer = .pair := by decide +kernel
theorem test_frame_onTheWire :
    (match Host.Core.run core 8 { standby with pending := (frameBytes 4 7 [0]).map fun b => .linkByteReceived (.byte b) } with
      | .next t => t.replyBuffer.map fun r => (r.type, r.tag, r.payload.take 3)
      | .fault _ => none
      | .refused _ => none) = some (0x84, 7, [0, 1, 0]) := by decide +kernel
theorem test_modeActivate : (after (.modeActivate 1) standby).mode = .active := by decide +kernel
theorem test_modeDirect_unknownSpeed : (after (.modeDirect 1) standby).mode = .standby := by decide +kernel
theorem test_track_admits :
    (after (.track 1 ([0, 0, 0, 1] ++ [5, 0, 0xFF, 0xE0, 0, 15, 0, 0, 0xFF, 0xF0, 0, 15, 2, 0x58, 9, 0, 0])) active).slots.head? =
      some (some { car 5 .tentative with obsTime := 8, hits := 1 }) := by decide +kernel
theorem test_drop_all : (after (.drop 1 [0]) (full .active active)).occupancy = 0 := by decide +kernel
theorem test_configWrite : (after (.configWrite 1 [1, 0, 0, 10]) standby).item 1 0 = 10 := by decide +kernel
theorem test_directLevels :
    levelAt (after (.directLevels 1 ([0, 11] ++ (List.replicate 16 [0x03, 0xFF]).flatten)) direct).left.direct 47 3 = 1023 := by
  decide +kernel
theorem test_nodePass : (after (.nodePass 1 [1, 7]) direct).grant = .pass := by decide +kernel
theorem test_frameStart : (after .frameStart active).composition.map Machine.Composition.remaining = some [.left, .right] := by
  decide +kernel
theorem test_headStage : (after .headStageComplete (composing [.left] active)).grant = .head .left := by decide +kernel
theorem test_blockSent : (after .blockSent (sending .sending active)).micros = 8000 := by decide +kernel
theorem test_echoStartTimeout : ((after .echoStartTimeout (sending (.awaiting 8000) active)).node 1).failCount = 1 := by
  decide +kernel

/-! ## The hypotheses of each statement are met, clause by clause -/

theorem test_meets_StepTakesTheFrontCommand : ({ standby with pending := [.frameStart] } : State).pending = .frameStart :: [] := rfl

/-- No moment due, one, and two; and a moment with another before it. -/
theorem test_meets_EmptyQueueStepIsTheTick :
    standby.pending = [] ∧ dueMoments standby = [] ∧
      dueMoments { State.reset with micros := 500000 } = [.autoloadTimeout] ∧
      dueMoments { active with sceneTimer := some 8, trackTimer := some 8 } = [.sceneTimerExpiry, .trackTimerExpiry] ∧
      momentOf .sceneTimerExpiry active = some 258000 ∧ momentOf .frameStart active = some 16000 ∧
      firstMoment 258000 active = 16000 ∧ momentOf .trackTimerExpiry standby = none ∧
      momentOf .blockSent (sending .sending { active with micros := 0 }) = some 120 ∧
      momentOf .replyTransmitted (replying standby) = some 160 := by
  decide +kernel

theorem test_meets_EveryCommandCompletes : ∀ strap, Instr.frameStart ≠ .reset strap := by simp

theorem test_meets_WholeImageIsJudgedGroupByGroup :
    State.reset.autoload = some AutoloadRead.begun ∧ ({ State.reset with micros := 500000 } : State).micros ≤ 500000 ∧
      (imageWith 0x40 0x00).length = 442 ∧ State.reset.tables.length = 8 ∧
      (guardPair (imageWith 0x40 0x01) 0 = 1 ∧ groupSound (imageWith 0x40 0x01) 0 = true) ∧
      guardPair (imageWith 0x40 0x01) 7 = 1 ∧ groupSound ((imageWith 0x40 0x01).set 441 0) 7 = false := by decide +kernel

theorem test_meets_AutoloadWithoutImageLeavesDefaults :
    State.reset.autoload ≠ none ∧ standby.autoload = none ∧ Undisturbed .autoloadTimeout State.reset ∧
      500000 < ({ State.reset with micros := 500001 } : State).micros :=
  ⟨by decide, rfl, undisturbed_of_own (by decide +kernel), by decide⟩

/-- The nine clauses, the header's at lengths 1, 240 and 241, the last payload byte and the first CRC byte. -/
theorem test_meets_FramerFollowsItsTable :
    let at_ := fun (framer : FramerState) (rxBytes : List Byte) => { standby with framer, rxBytes }
    (at_ .hunt []).framer = .hunt ∧ (at_ .pair []).framer = .pair ∧ (0xB4 : Byte) ≠ 0x4B ∧
      (at_ .header [1]).rxBytes.length < 2 ∧ (at_ .header [1, 2]).rxBytes.length = 2 ∧
      (240 : Byte).toNat ≤ 240 ∧ 240 < (241 : Byte).toNat ∧
      (at_ .payload [1, 2, 2]).rxBytes.length + 1 < 3 + (at_ .payload [1, 2, 2]).rxLength ∧
      (at_ .payload [1, 2, 2, 0]).rxBytes.length + 1 = 3 + (at_ .payload [1, 2, 2, 0]).rxLength ∧
      (at_ .crc [1, 2, 1, 0]).rxBytes.length < 4 + (at_ .crc [1, 2, 1, 0]).rxLength := by decide +kernel

/-- A frame awaiting its second CRC byte, which is wrong, or good with the queue at three and at four. -/
theorem test_meets_CompleteFrameIsCheckedAndOffered :
    let s := { replying standby with framer := .crc, rxBytes := ((frameBytes 4 7 [0]).drop 2).dropLast }
    s.rxBytes.length = 4 + s.rxLength ∧
      crc16 (s.rxBytes.take (3 + s.rxLength)) =
        word16 (byteAt s.rxBytes (3 + s.rxLength)) ((frameBytes 4 7 [0]).getLastD 0) ∧
      crc16 (s.rxBytes.take (3 + s.rxLength)) ≠
        word16 (byteAt s.rxBytes (3 + s.rxLength)) ((frameBytes 4 7 [0]).getLastD 0 + 1) ∧
      (queued 3 s).inbound.length < 4 ∧ 4 ≤ (queued 4 s).inbound.length ∧ (queued 3 s).handler ≠ .idle := by decide +kernel

theorem test_meets_FrameOnTheWireActsAsItsRequestRow :
    requestOf (.scene 1 (zeros 240)) = some (1, 1, zeros 240) ∧ (zeros 240).length ≤ 240 ∧ standby.framer = .hunt := by
  decide +kernel

theorem test_meets_AbandonedFrameIsDroppedAndCounted :
    FramerState.header.inFrame = true ∧ FramerState.payload.inFrame = true ∧ FramerState.crc.inFrame = true ∧
      FramerState.hunt.inFrame = false ∧ FramerState.pair.inFrame = false ∧ (silentFor 0 .crc).rxSilentSince = some 0 ∧
      ({ silentFor 0 .crc with rxSilentSince := none } : State).rxSilentSince = none ∧
      ({ standby with framer := .header, rxBytes := [1, 2] } : State).rxBytes.length = 2 ∧ 240 < (241 : Byte).toNat := by
  decide +kernel

/-- The moments that carry time with no other before them: silence, the end of a reply, the expiries, a frame start, and the four
moments of an exchange. -/
theorem test_meets_Undisturbed :
    Undisturbed .frameSilenceTimeout (silentFor 0 .header) ∧ Undisturbed .replyTransmitted (replying standby) ∧
      Undisturbed .sceneTimerExpiry nearDeadline ∧ Undisturbed .sceneTimerExpiry { direct with framePhase := some 256, micros := 249000 } ∧
      Undisturbed .sceneTimerExpiry { standby with sceneTimer := some 1 } ∧
      Undisturbed .trackTimerExpiry { nearDeadline with sceneTimer := some 500, trackTimer := some 262 } ∧
      Undisturbed .trackTimerExpiry { standby with trackTimer := some 1 } ∧ Undisturbed .frameStart active ∧
      Undisturbed .frameStart safe ∧ Undisturbed .frameStart direct ∧ Undisturbed .frameStart (composing [.left] active) ∧
      Undisturbed .blockSent (sending .sending active) ∧ Undisturbed .echoStartTimeout (sending (.awaiting 8000) active) ∧
      Undisturbed .echoSilenceTimeout (sending (.receiving 8000 [0xE2] (some 8010)) active) ∧
      Undisturbed .echoSilenceTimeout (sending (.failed 8000 (some 8010)) active) ∧
      Undisturbed .echoHardLimit (sending (.receiving 8000 [0xE2] (some 9140)) active) ∧
      Undisturbed .echoHardLimit (sending (.failed 8000 (some 9140)) active) ∧
      Undisturbed .echoHardLimit (sending (.awaiting 6000) active) := by
  refine ⟨?_, ?_, ?_, ?_, ?_, ?_, ?_, ?_, ?_, ?_, ?_, ?_, ?_, ?_, ?_, ?_, ?_, ?_⟩ <;> exact undisturbed_of_own (by decide +kernel)

theorem test_meets_EndOfReplyTakesTheNextRequest :
    (4 : Byte) ≠ 2 ∧ (4 : Byte) ≠ 9 ∧ standby.replyBuffer = none ∧ (replying standby).replyBuffer.isSome = true ∧ (replying standby).inbound = [] ∧
      (queued 1 (replying standby)).inbound ≠ [] := by decide +kernel

theorem test_meets_BusyHandlerQueuesOrDrops :
    requestOf (.modeStandby 3) = some (4, 3, [0]) ∧ Ready standby ∧ (queued 3 (replying standby)).handler ≠ .idle ∧
      (queued 3 (replying standby)).inbound.length < 4 ∧ 4 ≤ (queued 4 (replying standby)).inbound.length := by
  decide +kernel

/-- The types 0 and 10 are unknown; a SCENE of six bytes does not fit; a TRACK is not accepted in STANDBY. -/
theorem test_meets_RefusedRequestOnlyGetsItsAnswer :
    Ready standby ∧ requestOf (.unknownType 10 1 []) = some (10, 1, []) ∧ ¬ knownType 0 ∧ ¬ knownType 10 ∧
      (knownType 1 ∧ lengthFits 1 (zeros 6) = false) ∧ (knownType 9 ∧ lengthFits 9 (zeros 22) = false) ∧
      knownType 2 ∧ lengthFits 2 (zeros 4) = true ∧ acceptedIn 2 standby.mode = false := by decide +kernel

theorem test_meets_BadFieldRequestOnlyGetsItsAnswer :
    Ready standby ∧ Ready active ∧ Ready direct ∧ 6 < (7 : Byte).toNat ∧ 2 < (3 : Byte).toNat ∧ standby.mode ≠ .start ∧
      (lengthFits 2 ([0, 0, 0, 13] ++ zeros 221) = true ∧ acceptedIn 2 active.mode = true) ∧ 1 < (2 : Byte).toNat ∧
      11 < (12 : Byte).toNat ∧ 64 < (65 : Byte).toNat ∧ 7 < (8 : Byte).toNat ∧ itemCount 7 ≤ (13 : Byte).toNat ∧
      direct.mode = .direct ∧ (2 :: zeros 33 : List Byte).length = 34 := by decide +kernel

/-- The speeds 1500, 1501, 65534 and 65535; the yaw rates and pitches at and beside −32768. -/
theorem test_meets_SceneFieldsFollowTheirTables :
    unsignedAt [0x05, 0xDC] 0 = 1500 ∧ unsignedAt [0x05, 0xDD] 0 = 1501 ∧ unsignedAt [0xFF, 0xFE] 0 = 65534 ∧
      unsignedAt [0xFF, 0xFF] 0 = 65535 ∧ direct.scene.speedKnown = true ∧ standby.scene.speedKnown = false ∧
      signedAt [0x80, 0x00] 0 = -32768 ∧ signedAt [0x80, 0x01] 0 ≠ -32768 := by decide +kernel

/-- The modes, with track-seen clear and set, and DIRECT at the speeds 70 and 71 (direct_speed_max is 50). -/
theorem test_meets_AcceptedSceneActsByMode :
    (Ready standby ∧ standby.mode = .standby) ∧ (Ready active ∧ active.mode = .active) ∧
      (Ready safe ∧ safe.mode = .safe ∧ safe.trackSeen = false) ∧
      ({ safe with trackSeen := true } : State).trackSeen = true ∧ (Ready direct ∧ direct.mode = .direct) ∧
      ((takeScene (0 :: 70 :: zeros 5) direct.timeBase direct.scene).1.speed : Int) = direct.item 7 12 + 20 ∧
      direct.item 7 12 + 20 < ((takeScene (0 :: 71 :: zeros 5) direct.timeBase direct.scene).1.speed : Int) := by
  decide +kernel

/-- Zero and twelve observations, in ACTIVE and in SAFE with scene-seen clear and set; the last of two observations; one of 8 ms before,
of a TRACK that has waited 3 ms, and its outcome on the table that the one before it has left. -/
theorem test_meets_AcceptedTrackActsByMode :
    (zeros 4).length = 4 + 17 * (byteAt (zeros 4) 3).toNat ∧
      ([0, 0, 0, 12] ++ zeros 204 : List Byte).length = 4 + 17 * (byteAt ([0, 0, 0, 12] ++ zeros 204) 3).toNat ∧
      (Ready active ∧ active.mode = .active) ∧ (Ready safe ∧ safe.mode = .safe ∧ safe.sceneSeen = false) ∧
      ({ safe with sceneSeen := true } : State).sceneSeen = true ∧
      (let observation : List Byte := [5, 0, 255, 224, 0, 15] ++ zeros 6 ++ [2, 88, 4, 0, 0]
       let track : LinkFrame := { type := 2, tag := 1, payload := [8, 0, 0, 2] ++ observation ++ observation, receipt := 5 }
       (parseObservations 2 (observation ++ observation))[1]?.map Observation.azL = some (-32) ∧
         (serve track active).slots[0]?.map (fun slot => slot.map fun e => (e.id, e.obsTime, e.hits)) =
           some (some (5, (-3 : Millis), 2)) ∧
         (serve track active).replyBuffer.map (fun r => r.payload.drop 9) = some [1, 0, 3, 0]) := by decide +kernel

theorem test_meets_LeavingFreesTheSlotOfItsId :
    TargetTableLaw (full .active active) ∧ (seen 16 true).leaving = true ∧ (seen 63 true).id ≤ 63 ∧
      (full .active active).slots[15]? = some (some (car 16 .active)) ∧
      (seen 63 true).id ∉ entryIds (full .active active).slots := by decide +kernel

/-- Refused for id 0 and 64, and for a confidence below admit_confidence (4); marked at the rate 2001. -/
theorem test_meets_RefusedObservationOnlyCounts :
    (observe exposed (seen 0 true) active).outcome = .refusedField ∧
      (observe exposed (seen 64 false) active).outcome = .refusedField ∧
      (observe exposed { seen 5 false with confidence := 3 } active).outcome = .refusedConfidence ∧
      (observe exposed { seen 5 false with rate := 2001 } active).mark = true := by decide +kernel

theorem test_meets_UpdateRewritesTheEntryInItsSlot :
    TargetTableLaw (full .coasting active) ∧ (seen 16 false).leaving = false ∧ (seen 16 false).badFields = false ∧
      (full .coasting active).slots[15]? = some (some (car 16 .coasting)) ∧ (car 16 .coasting).id = (seen 16 false).id := by
  decide +kernel

/-- A free slot; a full table with TENTATIVE entries; one without a candidate. -/
theorem test_meets_NewIdIsAdmittedEvictsOrIsTurnedAway :
    (seen 63 false).badFields = false ∧ (seen 63 false).id ∉ entryIds (full .active active).slots ∧
      active.itemNat 2 0 ≤ (seen 63 false).confidence ∧ active.slots[0]? = some none ∧
      none ∉ (full .active active).slots ∧
      (full .tentative active).slots[0]? = some (some (car 1 .tentative)) ∧
      (∀ slot ∈ (full .active active).slots,
        slot.all fun e => decide (e.state ≠ .tentative) && decide (active.itemNat 3 0 ≤ e.tier)) := by decide +kernel

theorem test_meets_VictimIsFirstByTheEvictionOrder :
    ([(0, car 1 .active), (3, { car 2 .active with range := 0 })].map Prod.fst).Pairwise (· < ·) ∧
      (chooseVictim 8 [(0, { car 2 .active with range := 0 }), (3, car 1 .active)]).map Prod.fst = some 3 := by
  decide +kernel

/-- DROP of all, of the entry in slot 15, and of an absent id. -/
theorem test_meets_DropRemovesAndReportsEntries :
    Ready (full .active active) ∧ active.mode = .active ∧ safe.mode = .safe ∧ TargetTableLaw (full .active active) ∧
      (full .active active).slots[15]? = some (some (car 16 .active)) ∧ (car 16 .active).id = (16 : Byte).toNat ∧
      (255 : Byte).toNat ∉ entryIds (full .active active).slots := by decide +kernel

/-- The ages 80 and 81 at coast_start, 400 and 401 at coast_limit. -/
theorem test_meets_AgingRemovesAndCoasts :
    (full .active active).slots[0]? = some (some (car 1 .active)) ∧ active.slots[0]? = some none ∧
      (ageOf 401 0 : Int) = active.item 2 3 + 1 ∧ (ageOf 400 0 : Int) = active.item 2 3 ∧
      (ageOf 81 0 : Int) = active.item 2 2 + 1 ∧ (ageOf 80 0 : Int) = active.item 2 2 := by decide +kernel

theorem test_meets_ModeStandbyTearsDown :
    (Ready standby ∧ standby.mode = .standby) ∧ (Ready active ∧ active.mode = .active) ∧ (Ready safe ∧ safe.mode = .safe) ∧
      Ready direct ∧ direct.mode = .direct := by decide +kernel

theorem test_meets_ConsistencyCheckNamesTheFirstFailure :
    standby.firstFailure.isNone = true ∧
      ((setItem 7 9 800 standby).firstFailure.map fun c => (c.table, c.item)) = some (7, 9) := by decide +kernel

theorem test_meets_ModeActivateEntersActive :
    (Ready standby ∧ standby.mode = .standby ∧ standby.firstFailure.isNone = true) ∧
      (setItem 2 2 500 standby).firstFailure.isSome = true ∧ active.mode = .active ∧ safe.mode = .safe ∧
      direct.mode = .direct := by decide +kernel

/-- The speed at direct_speed_max, one above it, and unknown. -/
theorem test_meets_ModeDirectEntersDirect :
    (Ready standby ∧ standby.mode = .standby ∧ standby.firstFailure.isNone = true) ∧ direct.scene.speedKnown = true ∧
      (direct.scene.speed : Int) = standby.item 7 12 ∧ standby.item 7 12 < (51 : Int) ∧
      standby.scene.speedKnown = false ∧ (setItem 2 2 500 standby).firstFailure.isSome = true := by decide +kernel

theorem test_meets_TimerExpiriesActByMode :
    (standby.sceneTimer = none ∧ standby.trackTimer = none) ∧ (active.sceneTimer = some 258 ∧ active.mode = .active) ∧
      (direct.sceneTimer = some 250 ∧ direct.mode = .direct) ∧ active.trackTimer = some 308 ∧
      (passing .sending direct).handler ≠ .idle ∧ direct.handler = .idle ∧
      ({ standby with sceneTimer := some 1, trackTimer := some 1 } : State).mode ≠ .active := by decide +kernel

theorem test_meets_Queries : Ready standby ∧ (11 : Byte).toNat ≤ 11 ∧ CounterLaw standby := by decide +kernel

/-- Sixty-four values at the last index of table 7, an index at its item count, and a table id of 8. -/
theorem test_meets_ConfigRequests :
    Ready standby ∧ standby.mode = .standby ∧ CalibrationLaw standby ∧ (List.replicate 64 ((0 : Byte), (0 : Byte))).length ≤ 64 ∧
      (7 : Byte).toNat ≤ 7 ∧ (12 : Byte).toNat < itemCount 7 ∧ itemCount 7 ≤ (13 : Byte).toNat ∧ 7 < (8 : Byte).toNat ∧
      standby.mode ≠ .start ∧ 1 ≤ (64 : Byte).toNat ∧ (64 : Byte).toNat ≤ 64 := by decide +kernel

theorem test_meets_DirectLevelsReplacesOneGroup :
    Ready direct ∧ direct.mode = .direct ∧ ([1, 11] ++ zeros 32 : List Byte).length = 34 ∧
      (byteAt ([1, 11] ++ zeros 32) 0).toNat = 1 ∧ (byteAt ([1, 11] ++ zeros 32) 1).toNat ≤ 11 := by decide +kernel

/-- The node ids 1 and 24 have routes, 0 and 25 none. -/
theorem test_meets_NodePassIsHandedToTheSequencer :
    Ready direct ∧ direct.mode = .direct ∧ (zeros 20).length ≤ 20 ∧ direct.routeOf 0 = none ∧ direct.routeOf 25 = none ∧
      direct.routeOf 1 = some .left ∧ direct.routeOf 24 = some .right ∧ direct.grant = .none ∧
      SequencerBusy (sending .sending direct) ∧ (direct.item 0 2 = 1 ∧ direct.item 0 3 = 12 ∧ direct.nodeCount .left = 12) ∧
      (setItem 0 2 0 (setItem 0 3 0 direct)).nodeCount .left = 0 := by decide +kernel

theorem test_meets_FrameStartBeginsAComposition :
    active.framePhase = some 16 ∧ active.mode = .active ∧ active.composition = none ∧ safe.framePhase = some 16 ∧
      safe.mode = .safe ∧ safe.composition = none := by decide +kernel

/-- With the right head absent as well. -/
theorem test_meets_FrameStartIsDroppedOrStagesDirectFrames :
    standby.framePhase = none ∧ active.framePhase = some 16 ∧ (composing [.left] active).composition ≠ none ∧
      direct.framePhase = some 8 ∧ direct.mode = .direct ∧ direct.present .left = true ∧
      (setItem 0 4 0 (setItem 0 5 0 direct)).present .right = false := by decide +kernel

theorem test_meets_HeadStageStoresAndStagesItsLevels :
    standby.composition = none ∧
      ((composing [.left, .right] active).composition.map Machine.Composition.remaining) = some (.left :: [.right]) ∧
      ((composing [.right] active).composition.map Machine.Composition.remaining) = some (.right :: []) ∧
      ((composing [] active).composition.map Machine.Composition.remaining) = some [] := by decide +kernel

/-- Column 47 lies in the driven group 11 of a head of twelve nodes, and in an undriven one of a head of eleven. -/
theorem test_meets_ComposedLevelKeepsItsBounds :
    (composing [.left] active).composition.map Machine.Composition.pattern = some .envelope ∧
      47 / 4 < active.nodeCount .left ∧ ¬ 47 / 4 < (setItem 0 3 11 active).nodeCount .left := by decide +kernel

/-- bridge_cols is 1: a gap of 0 columns is bridged, a gap of 1 is not; the merged window has the lower residual. -/
theorem test_meets_ShadowListKeepsItsForm :
    0 ≤ active.item 2 9 ∧ (full .active active).slots.length = 16 ∧
      (shadowList active .left 8 (full .active active).slots).length = 1 ∧
      (let window := fun (first last residual : Nat) => ({ first, last, bottom := 0, top := 1, residual } : Window)
       mergeWindows 1 (sortWindows [window 8 9 256, window 3 4 0, window 5 6 256]) = [window 3 6 0, window 8 9 256]) := by
  decide +kernel

/-- A window on the matrix that covers rows 0 and 1, and none off it or with no row met. -/
theorem test_meets_WindowCoversTheWholeEntry :
    ((windowOf active .left 8 (car 1 .active)).map fun w => (w.bottom, w.top)) = some (0, 1) ∧
      windowOf active .left 8 { car 1 .active with azL := 1000, azR := 1023 } = none ∧
      windowOf active .left 8 { car 1 .active with azL := -1024, azR := -1000 } = none ∧
      windowOf active .left 8 { car 1 .active with elevB := 128, elevT := 130 } = none ∧
      (windowOf active .left 8 { car 1 .active with elevB := 127, elevT := 130 }).map (fun w => (w.bottom, w.top)) = some (3, 3) := by
  decide +kernel

theorem test_meets_ConfirmedEntryIsHeldAtItsResidual :
    some (car 1 .active) ∈ ([some (car 1 .active)] : List (Option Entry)) ∧ (car 1 .active).state ≠ .tentative ∧
      ((windowOf active .left 8 (car 1 .active)).any fun w => w.covers 24 0) = true := by decide +kernel

/-- The bend of a right and of a left curve, with the pitch filter at its start and on its way. -/
theorem test_meets_BeamShaperStageKeepsItsBounds :
    CalibrationLaw active ∧ Within (active.item 7 3) active.shaper.prev ∧
      (shapedState active (snapshotAt 500 true)).prev = 12 ∧
      (shapedState active { snapshotAt 500 true with yawRate := -100 }).prev = -12 ∧ active.shaper.pf = none ∧
      (shapedState active (snapshotAt 500 true)).pf = some 0 := by decide +kernel

/-- The speeds 499, 500, 799 and 800 without hysteresis, and the six thresholds of the table from each profile. -/
theorem test_meets_ProfileSelectionFollowsTheTable :
    active.shaper.profile = none ∧
      ([499, 500, 799, 800].map fun v => (shapedResults active (snapshotAt v true)).profile) =
        [.town, .country, .country, .motorway] ∧
      active.item 7 9 + active.item 7 11 < active.item 7 10 - active.item 7 11 ∧ 0 ≤ active.item 7 11 ∧
      ([529, 530, 829, 830].map fun v => nextProfile active (snapshotAt v true) .town) =
        [.town, .country, .country, .motorway] ∧
      ([469, 470, 829, 830].map fun v => nextProfile active (snapshotAt v true) .country) =
        [.town, .country, .country, .motorway] ∧
      ([469, 470, 769, 770].map fun v => nextProfile active (snapshotAt v true) .motorway) =
        [.town, .country, .country, .motorway] := by decide +kernel

/-- Busy and free, with an empty and with a full slot; the pass-through waiting; one head waiting, both at different times, both at one
time, and none. -/
theorem test_meets_HandedFramesWaitAndAreGrantedInOrder :
    let waits := fun (l r : Option Millis) =>
      { active with
        left := { active.left with staged := l.map fun readyTime => { levels := darkFrame, readyTime } }
        right := { active.right with staged := r.map fun readyTime => { levels := darkFrame, readyTime } } }
    (SequencerBusy (sending .sending active) ∧ (sending .sending active).left.staged = none ∧
        (sending .sending active).right.staged ≠ none) ∧
      (active.grant = .none ∧ (waits none (some 8)).grant = .none) ∧
      ({ direct with passThrough := some { node := 24, bytes := [7], inFlight := false } } : State).routeOf 24 = some .right ∧
      ((waits (some 8) none).passThrough = none ∧ (waits (some 8) none).left.staged ≠ none) ∧
      ageOf (waits (some 7) (some 8)).timeBase 8 < ageOf (waits (some 7) (some 8)).timeBase 7 ∧
      (arbitrate (waits (some 8) (some 8))).grant = .head .left ∧ (waits none none).left.staged = none := by decide +kernel

theorem test_meets_ExchangeMomentsMoveTheExchange :
    standby.exchange = none ∧
      (([.sending, .awaiting 120, .receiving 120 [0xE2] (some 130), .failed 120 (some 130)] : List ExchangePhase).map fun phase =>
        (sending phase active).exchange.map Exchange.phase) =
      [some .sending, some (.awaiting 120), some (.receiving 120 [0xE2] (some 130)), some (.failed 120 (some 130))] := by decide +kernel

theorem test_meets_EchoByteIsDiscardedTakenOrFailsTheEcho :
    standby.exchange = none ∧ (exchangeIn (.service [7]) .sending).port ≠ .right ∧
      (exchangeIn (.service [7]) (.receiving 0 [0xE2, 2, 1] (some 0))).port = .left ∧ byteAt [0xE2, 2, 1] 1 = 2 ∧
      (20 < (21 : Byte).toNat ∧ (20 : Byte).toNat ≤ 20 ∧ 1 ≤ (1 : Byte).toNat) ∧
      (byteAt [0xE2, 2, 1, 1] 3 = 1 ∧ ([0xE2, 2, 1, 1] : List Byte).length + 1 < 1 + 5) ∧
      (byteAt (0xE2 :: 1 :: zeros 25) 1 = 1 ∧ (0xE2 :: 1 :: zeros 25 : List Byte).length + 1 = 28) ∧ ([0xE2] : List Byte).length = 1 ∧ (3 : Byte) ≠ 1 ∧ (3 : Byte) ≠ 2 := by decide +kernel

/-- A good levels echo, a good service echo of one byte, and one with a wrong CRC-8. -/
theorem test_meets_LastByteOfAnEchoIsJudged :
    (0xE2 :: (blockCovered 1 (.levels (List.replicate 16 1023)) ++ [0, 0, 0, 0, 255]) : List Byte).length = 28 ∧
      (let body : List Byte := [2, 1, 1, 9]
       let s := passing (.receiving 0 (0xE2 :: body) (some 0)) direct
       (after (.echoReceived .left (crc8 body)) s).replyBuffer.isSome = true ∧
         ((after (.echoReceived .left (crc8 body + 1)) s).exchange.map Exchange.phase) = some (.failed 0 (some 0))) := by
  decide +kernel

/-- The last group of a transfer, one before it past the hold budget and one within it, and a pass-through. -/
theorem test_meets_CompletedExchangeMovesItsGrantOn :
    let s := sending (.awaiting 120) active
    s.grant = .head .left ∧ s.nodeCount .left = 12 ∧ s.nodeCount .left ≤ ({ s with progress := 11 } : State).progress + 1 ∧
      ({ s with progress := 10 } : State).progress + 1 < s.nodeCount .left ∧ s.itemNat 1 4 ≤ s.micros - s.grantStart.getD s.micros ∧
      s.right.staged ≠ none ∧ ¬ s.itemNat 1 4 ≤ ({ s with micros := 2999 } : State).micros - s.grantStart.getD s.micros ∧
      (passing (.awaiting 0) direct).grant = .pass ∧
      (passing (.awaiting 0) direct).handler = .serving { type := 9, tag := 3, payload := [1, 7], receipt := 0 } := by
  decide +kernel

/-- Each state of a node, the mismatch at mismatch_limit (3) and the failure at silent_limit (4). -/
theorem test_meets_NodeRecordFollowsItsOutcomes :
    let matching := ExchangeOutcome.goodLevels [100] [100] { derate := 255, openFlags := 0, shortFlags := 0 }
    let differing := ExchangeOutcome.goodLevels [100] [105] { derate := 255, openFlags := 0, shortFlags := 0 }
    let judged := fun (state : NodeState) (m f : Nat) (o : ExchangeOutcome) => ((nodeOutcome 1 o (nodeIn state m f active)).node 1).state
    judged .silent 0 9 matching = .ok ∧ judged .ok 1 0 differing = .suspect ∧ judged .suspect 2 0 differing = .isolated ∧
      judged .isolated 3 0 matching = .isolated ∧ judged .unseen 0 2 .failed = .unseen ∧ judged .unseen 0 3 .failed = .silent ∧
      judged .silent 0 9 .failed = .silent ∧ judged .silent 1 9 (.goodService [1]) = .suspect ∧
      judged .silent 0 9 (.goodService [1]) = .ok ∧ judged .suspect 1 1 (.goodService [1]) = .suspect ∧
      active.nodes.length = 30 := by decide +kernel

/-- A known pair, a new one at 23 and at 24 records; a counter at 65534 and at 65535. -/
theorem test_meets_FaultsAndCountersRecordEvents :
    let listed := fun (n : Nat) =>
      { active with faults := (List.range n).map fun i => { kind := .nodeSilent, subject := i, firstTime := 0, occurrences := 1 } }
    let counted := fun (count : Nat) => { active with counters := zeroCounters.set 0 { count, overflow := false } }
    (∃ r ∈ (listed 24).faults, r.kind = .nodeSilent ∧ r.subject = 23) ∧ (listed 23).faults.length < 24 ∧
      (¬ ∃ r ∈ (listed 24).faults, r.kind = .nodeSilent ∧ r.subject = 24) ∧ CounterLaw (counted 65534) ∧
      CounterLaw (counted 65535) ∧ (counted 65535).counter .linkCrcErrors = { count := 65535, overflow := false } := by
  decide +kernel

/-- A state in the middle of a stay in ACTIVE: the left transfer is running, the right frame waits, the table is full. -/
def midStay : State := { sending (.awaiting 7700) (full .active active) with pending := [.echoStartTimeout] }

theorem test_meets_lawsOfTheBlocks :
    TargetTableLaw midStay ∧ CalibrationLaw midStay ∧ FaultListLaw midStay ∧ CounterLaw midStay ∧ SceneLaw midStay := by
  decide +kernel

theorem test_meets_lawsOfTheRecords : EntryLaw midStay ∧ NodeLaw midStay ∧ CursorLaw midStay := by
  refine ⟨⟨?_, fun c e h => nomatch h⟩, by decide +kernel, ?_⟩
  · intro e h
    obtain ⟨i, _, hi⟩ := List.mem_map.1 h
    cases hi
    have hi : i < 16 := List.mem_range.1 ‹_›
    refine ⟨⟨Nat.succ_pos i, ?_⟩, by dsimp only [car]; decide⟩
    show i + 1 ≤ 63
    omega
  · intro _ h _
    cases h <;> decide +kernel

theorem test_meets_lawsOfTheModes : ModeLaw midStay ∧ DirectSpeedLaw midStay ∧ RestLaw midStay :=
  ⟨by decide +kernel, by decide +kernel, rfl, fun h => absurd h (by decide +kernel)⟩

/-- On time: nothing of that state has been passed over. -/
theorem test_meets_punctual : PunctualLaw midStay ∧ CalibrationLaw midStay := by
  refine ⟨⟨?_, ?_, ?_, ?_, ?_, ?_, ?_⟩, by decide +kernel⟩
  · intro d h; cases h; decide +kernel
  · intro d h; cases h; decide +kernel
  · intro d h; cases h; decide +kernel
  · exact fun h => nomatch h
  · exact fun h => nomatch h
  · exact fun r h => nomatch h
  · intro x h; cases h; show midStay.micros ≤ 7700 + midStay.itemNat 1 3; decide +kernel

theorem test_meets_lawsOfTheLinks : HandlerLaw midStay ∧ SequencerLaw midStay ∧ IsolationLaw midStay := by
  refine ⟨⟨by decide, rfl, rfl, rfl⟩, ⟨rfl, rfl, rfl, fun p h => nomatch h⟩, ?_⟩
  intro x levels hx hc hi
  cases hx
  exact absurd hi (by decide +kernel)

theorem test_meets_lawsOfTheLevels : LevelLaw midStay ∧ ShaperLaw midStay := by
  have dark : LevelArray darkFrame := by decide +kernel
  refine ⟨⟨?_, ?_, ?_⟩, by decide +kernel, by decide +kernel, by decide +kernel, fun pf h => nomatch h⟩
  · refine ⟨dark, dark, (fun f h => nomatch h), fun levels h => ?_⟩
    cases h; exact dark
  · refine ⟨dark, dark, fun f h => ?_, fun levels h => nomatch h⟩
    cases h; exact dark
  · intro x levels hx hc
    cases hx
    cases hc
    decide +kernel

theorem test_meets_lawsOfTheReplies : ShadowCountLaw midStay ∧ ReplySizeLaw midStay :=
  ⟨⟨by decide, by decide, fun c h => nomatch h⟩, fun r h => nomatch h⟩

/-- A step takes that state on. -/
theorem test_meets_stepTakesItOn : ∃ t, step midStay = .next t :=
  ⟨_, (step_cons (s := midStay) rfl).trans (exec_after _ _)⟩

end Sys2Proof.Tests
end

section
/-! PROOFS. The calibration items and the levels stay in their ranges (R14, R175): what each operation of the block keeps of
them, from the level arrays and the tables up to a step. -/

namespace Sys2Proof.Machine

/-! ## Level arrays (R14) -/

/-- The sixteen levels of a levels block (R110). -/
abbrev GroupArray (levels : List Nat) : Prop := levels.length = 16 ∧ ∀ level ∈ levels, level ≤ 1023

/-- The levels that a block carries, if it is a levels block. -/
abbrev BlockLevels (content : BlockContent) : Prop := ∀ levels, content = .levels levels → GroupArray levels

theorem levelAt_le {levels : List Nat} {bound : Nat} (h : ∀ level ∈ levels, level ≤ bound) (c r : Nat) :
    levelAt levels c r ≤ bound := by
  unfold levelAt
  rw [List.getD_eq_getElem?_getD]
  cases e : levels[segmentIndex c r]? with
  | none => exact Nat.zero_le _
  | some level => exact h level (List.mem_of_getElem? e)

/-- A level array built from levels in range. -/
theorem levelArray_matrixOf {f : Nat → Nat → Nat} (h : ∀ c < 48, ∀ r < 4, f c r ≤ 1023) : LevelArray (matrixOf f) := by
  refine ⟨length_matrixOf f, fun level hl => ?_⟩
  obtain ⟨i, hi, rfl⟩ := List.mem_map.1 hl
  have hi := List.mem_range.1 hi
  exact h _ (by omega) _ (by omega)

theorem levelArray_darkFrame : LevelArray darkFrame :=
  ⟨List.length_replicate, fun _ hl => by rw [List.eq_of_mem_replicate hl]; exact Nat.zero_le _⟩

/-- A group of an array in range. -/
theorem groupArray_groupLevels {levels : List Nat} (h : ∀ level ∈ levels, level ≤ 1023) (g : Nat) :
    GroupArray (groupLevels levels g) := by
  refine ⟨by simp [groupLevels], fun level hl => ?_⟩
  obtain ⟨k, _, rfl⟩ := List.mem_map.1 hl
  exact levelAt_le h _ _

/-- A group overwritten with levels that are each at most 1023 (R99). -/
theorem levelArray_writeGroup {levels : List Nat} (h : LevelArray levels) (g : Nat) (values : List Nat) :
    LevelArray (writeGroup levels g (values.map (min 1023))) := by
  refine levelArray_matrixOf fun c _ r _ => ?_
  split
  · rw [List.getD_eq_getElem?_getD, List.getElem?_map]
    cases values[4 * r + c % 4]? with
    | none => exact Nat.zero_le _
    | some value => exact Nat.min_le_left _ _
  · exact levelAt_le h.2 c r

/-! ## The levels of a head -/

theorem headLevels_rest : HeadLevels HeadState.rest :=
  ⟨levelArray_darkFrame, levelArray_darkFrame, nofun, nofun⟩

/-- A frame in the staged slot (R102). -/
theorem HeadLevels.stage {hs : HeadState} (h : HeadLevels hs) {f : StagedFrame} (hf : LevelArray f.levels) :
    HeadLevels { hs with staged := some f } := by
  obtain ⟨applied, direct, _, live⟩ := h
  exact ⟨applied, direct, fun g hg => by cases hg; exact hf, live⟩

/-- The staged frame goes live (R103). -/
theorem HeadLevels.goLive {hs : HeadState} (h : HeadLevels hs) {f : StagedFrame} (hf : hs.staged = some f) :
    HeadLevels { hs with staged := none, live := some f.levels } := by
  obtain ⟨applied, direct, staged, _⟩ := h
  exact ⟨applied, direct, nofun, fun levels hl => by cases hl; exact staged f hf⟩

/-- The live slot is idle (R104). -/
theorem HeadLevels.endLive {hs : HeadState} (h : HeadLevels hs) : HeadLevels { hs with live := none } := by
  obtain ⟨applied, direct, staged, _⟩ := h
  exact ⟨applied, direct, staged, nofun⟩

/-- New applied levels (R94). -/
theorem HeadLevels.apply {hs : HeadState} (h : HeadLevels hs) {levels : List Nat} (hl : LevelArray levels) :
    HeadLevels { hs with applied := levels } := by
  obtain ⟨_, rest⟩ := h
  exact ⟨hl, rest⟩

/-- A new direct frame (R98, R99). -/
theorem HeadLevels.redirect {hs : HeadState} (h : HeadLevels hs) {levels : List Nat} (hl : LevelArray levels) :
    HeadLevels { hs with direct := levels } := by
  obtain ⟨applied, _, rest⟩ := h
  exact ⟨applied, hl, rest⟩

/-! ## Tables (R175) -/

/-- Eight tables of values, each in its item's range. -/
abbrev TablesAdmitted (tables : List (List Int)) : Prop :=
  tables.length = 8 ∧ ∀ t < 8, valuesAdmitted (tableSpec t) (tables.getD t []) = true

theorem tablesAdmitted_default : TablesAdmitted defaultTables := by decide +kernel

/-- One value in range replaces another. -/
theorem valuesAdmitted_set {specs : List ItemSpec} {values : List Int} (h : valuesAdmitted specs values = true) {i : Nat}
    {item : ItemSpec} (hi : specs[i]? = some item) {value : Int} (hv : item.admits value = true) :
    valuesAdmitted specs (values.set i value) = true := by
  induction specs generalizing values i with
  | nil => cases hi
  | cons spec specs ih =>
    cases values with
    | nil => exact h
    | cons first values =>
      simp only [valuesAdmitted, Bool.and_eq_true] at h
      obtain ⟨hfirst, hrest⟩ := h
      cases i with
      | zero =>
        cases hi
        simp only [List.set_cons_zero, valuesAdmitted, hv, hrest, Bool.and_self]
      | succ i =>
        simp only [List.set_cons_succ, valuesAdmitted, hfirst, ih hrest hi, Bool.and_self]

/-- A table replaced by one that its specification admits if it admits the old one. -/
theorem TablesAdmitted.modify {tables : List (List Int)} (h : TablesAdmitted tables) {table : Nat} {f : List Int → List Int}
    (hf : ∀ values, valuesAdmitted (tableSpec table) values = true → valuesAdmitted (tableSpec table) (f values) = true) :
    TablesAdmitted (tables.modify table f) := by
  obtain ⟨length, admitted⟩ := h
  refine ⟨by rw [List.length_modify, length], fun t ht => ?_⟩
  have old := admitted t ht
  have lt : t < tables.length := by omega
  rw [List.getD_eq_getElem?_getD, List.getElem?_eq_getElem lt] at old
  rw [List.getD_eq_getElem?_getD, List.getElem?_modify, List.getElem?_eq_getElem lt]
  by_cases e : table = t
  · subst e
    simpa using hf _ old
  · simpa [e] using old

/-- A whole table that its specification admits (R178). -/
theorem TablesAdmitted.set {tables : List (List Int)} (h : TablesAdmitted tables) {table : Nat} {values : List Int}
    (hv : valuesAdmitted (tableSpec table) values = true) : TablesAdmitted (tables.set table values) := by
  have replaced := List.modify_eq_set (fun _ => values) table tables
  rw [← replaced]
  exact h.modify fun _ _ => hv

/-! ## The two laws together -/

/-- What `CalibrationLaw` and `LevelLaw` say, of the four fields they speak of. -/
structure RangesHeld (tables : List (List Int)) (left right : HeadState) (exchange : Option Exchange) : Prop where
  tables : TablesAdmitted tables
  left : HeadLevels left
  right : HeadLevels right
  sent : ∀ x, exchange = some x → BlockLevels x.content

/-- Every calibration item and every level of a state lies in its range (R14, R175). -/
abbrev InRange (s : State) : Prop := RangesHeld s.tables s.left s.right s.exchange

theorem inRange_iff {s : State} : InRange s ↔ CalibrationLaw s ∧ LevelLaw s := by
  constructor
  · rintro ⟨tables, left, right, sent⟩
    exact ⟨tables, left, right, fun x levels hx => sent x hx levels⟩
  · rintro ⟨tables, left, right, sent⟩
    exact ⟨tables, left, right, fun x hx levels => sent x levels hx⟩

theorem inRange_reset : InRange State.reset :=
  ⟨tablesAdmitted_default, headLevels_rest, headLevels_rest, nofun⟩

section
variable {s : State}

theorem InRange.head (h : InRange s) (k : Head) : HeadLevels (s.head k) := by
  cases k
  · exact h.left
  · exact h.right

theorem InRange.setHead (h : InRange s) (k : Head) {hs : HeadState} (hk : HeadLevels hs) : InRange (s.setHead k hs) := by
  cases k
  · exact ⟨h.tables, hk, h.right, h.sent⟩
  · exact ⟨h.tables, h.left, hk, h.sent⟩

theorem InRange.judged {t : State} (h : InRange s) (only : OnlyJudged s t) : InRange t := by
  unfold OnlyJudged at only; rw [only]; exact h

theorem InRange.table {t : State} (h : InRange s) (only : OnlyTable s t) : InRange t := by
  unfold OnlyTable at only; rw [only]; exact h

theorem InRange.latch (h : InRange s) (kind : FaultKind) (subject : Nat) : InRange (latch kind subject s) :=
  h.judged (latchFault_only kind subject s.timeBase s).judged

/-! ## The Link Sequencer -/

theorem InRange.startExchange (h : InRange s) (port : Head) (node : Nat) {content : BlockContent}
    (hc : BlockLevels content) : InRange (startExchange port node content s) :=
  ⟨h.tables, h.left, h.right, fun x hx => by cases hx; exact hc⟩

/-- The levels of a block are a group of the live frame, or dark (R121). -/
theorem groupArray_blockLevels (h : InRange s) (k : Head) (g : Nat) : GroupArray (blockLevels s k g) := by
  unfold blockLevels
  split
  · exact ⟨List.length_replicate, fun _ hl => by rw [List.eq_of_mem_replicate hl]; exact Nat.zero_le _⟩
  · refine groupArray_groupLevels ?_ g
    obtain ⟨_, _, _, live⟩ := h.head k
    cases e : (s.head k).live with
    | none => exact nofun
    | some levels => exact (live levels e).2

theorem InRange.sendGroup (h : InRange s) (k : Head) : InRange (sendGroup k s) :=
  h.startExchange _ _ fun levels e => by cases e; exact groupArray_blockLevels h k _

theorem InRange.grantHead (h : InRange s) (k : Head) : InRange (grantHead k s) := by
  unfold Machine.grantHead
  split
  · exact h
  · rename_i f hf
    refine InRange.sendGroup ?_ k
    exact h.setHead k ((h.head k).goLive hf)

theorem InRange.grantPass (h : InRange s) (p : PassThrough) : InRange (grantPass p s) :=
  InRange.startExchange (s := { s with grant := .pass }) h _ _ nofun

theorem InRange.arbitrate (h : InRange s) : InRange (arbitrate s) := by
  unfold Machine.arbitrate
  split
  · split
    · exact h
    · exact h.grantPass _
  · split
    · exact h.grantHead _
    · exact h

theorem InRange.requestArrived (h : InRange s) : InRange (requestArrived s) := by
  unfold Machine.requestArrived
  split
  · exact h.arbitrate
  · exact h

theorem InRange.stageFrame (h : InRange s) (k : Head) {levels : List Nat} (hl : LevelArray levels) :
    InRange (stageFrame k levels s) := by
  have counted : InRange (if (s.head k).staged.isSome then countEvent (.superseded k) s else s) := by
    split <;> exact h
  exact (counted.setHead k ((counted.head k).stage hl)).requestArrived

theorem InRange.endTransfer (h : InRange s) (k : Head) : InRange (endTransfer k s) :=
  InRange.arbitrate (s := { s.setHead k { s.head k with live := none } with grant := .none })
    (h.setHead k (h.head k).endLive)

theorem InRange.truncateTransfer (h : InRange s) (k : Head) : InRange (truncateTransfer k s) := by
  have moved := h.setHead k (hs := { s.head k with cursor := ((s.head k).cursor + s.progress) % s.nodeCount k }) (h.head k)
  exact InRange.endTransfer (s := countEvent (.truncated k) _) moved k

theorem InRange.continueTransfer (h : InRange s) (k : Head) : InRange (continueTransfer k s) := by
  have sent : InRange { s with progress := s.progress + 1 } := h
  unfold Machine.continueTransfer
  dsimp only
  split
  · exact sent.endTransfer k
  · split
    · exact sent.truncateTransfer k
    · exact sent.sendGroup k

theorem InRange.answerHeld (h : InRange s) (status : Status) (part : List Byte) : InRange (answerHeld status part s) := by
  rw [answerHeld_only]; exact h

theorem InRange.completePass (h : InRange s) (o : ExchangeOutcome) : InRange (completePass o s) :=
  (InRange.answerHeld (s := { s with grant := .none, passThrough := none }) h _ _).arbitrate

theorem InRange.countFailure (h : InRange s) (port : Head) (o : ExchangeOutcome) : InRange (countFailure port o s) := by
  unfold Machine.countFailure
  split <;> exact h

theorem InRange.endExchange (h : InRange s) : InRange { s with exchange := none } :=
  ⟨h.tables, h.left, h.right, nofun⟩

theorem InRange.completeExchange (h : InRange s) (x : Exchange) (o : ExchangeOutcome) : InRange (completeExchange x o s) := by
  have judged := (h.endExchange.judged (nodeOutcome_only x.node o _)).countFailure x.port o
  unfold Machine.completeExchange
  dsimp only
  split
  · exact judged.continueTransfer _
  · exact judged.completePass o
  · exact judged

/-- The exchange in flight keeps its block. -/
theorem InRange.setPhase (h : InRange s) {x : Exchange} (hx : s.exchange = some x) (phase : ExchangePhase) :
    InRange (setPhase x phase s) :=
  ⟨h.tables, h.left, h.right, fun y hy => by cases hy; exact h.sent x hx⟩

theorem InRange.receiveEchoBody (h : InRange s) {x : Exchange} (hx : s.exchange = some x) (ended : Nat) (bytes : List Byte) :
    InRange (receiveEchoBody x ended bytes s) := by
  unfold Machine.receiveEchoBody
  split
  · exact h.setPhase hx _
  · exact h.setPhase hx _
  · split
    · exact h.completeExchange _ _
    · exact h.setPhase hx _

theorem InRange.receiveEchoByte (h : InRange s) (port : Head) (b : Byte) (stopLow : Bool) :
    InRange (receiveEchoByte port b stopLow s) := by
  unfold Machine.receiveEchoByte
  split
  · exact h
  · rename_i x hx
    split
    · exact h
    · split
      · exact h
      · split
        · exact h.setPhase hx _
        · exact h
      · split
        · exact h.setPhase hx _
        · exact h.receiveEchoBody hx _ _
      · exact h.setPhase hx _

theorem InRange.beginEchoByte (h : InRange s) (port : Head) : InRange (beginEchoByte port s) := by
  unfold Machine.beginEchoByte
  split
  · exact h
  · rename_i x hx
    split
    · exact h
    · split
      · exact h
      · exact h
      · exact h.setPhase hx _
      · exact h.setPhase hx _

theorem InRange.finishBlock (h : InRange s) : InRange (finishBlock s) := by
  unfold Machine.finishBlock
  split
  · exact h
  · rename_i x hx
    exact h.setPhase hx _

theorem InRange.failExchange (h : InRange s) : InRange (failExchange s) := by
  unfold Machine.failExchange
  split
  · exact h
  · exact h.completeExchange _ _

end

/-! ## The composed levels (R89 to R96) -/

/-- A quotient lies between 0 and `m` when the dividend lies between 0 and `m` times the divisor. -/
theorem truncDiv_between {a b m : Int} (hb : 0 < b) (h0 : 0 ≤ a) (h : a ≤ m * b) :
    0 ≤ truncDiv a b ∧ truncDiv a b ≤ m := by
  unfold truncDiv
  rw [Int.tdiv_eq_ediv_of_nonneg h0]
  exact ⟨Int.ediv_nonneg h0 (Int.le_of_lt hb), Int.ediv_le_of_le_mul hb h⟩

/-- The table of a profile is 48 columns and the four row gains (R15, R16). -/
theorem profileTable_spec (p : Profile) :
    p.table < 8 ∧ ∃ columns : List Int, columns.length = 48 ∧ tableSpec p.table = profileSpec columns := by
  cases p
  · exact ⟨by decide, symmetricColumns [(6, 64), (6, 256), (12, 512)], by decide, rfl⟩
  · exact ⟨by decide, symmetricColumns [(6, 128), (6, 512), (12, 1023)], by decide, rfl⟩
  · exact ⟨by decide, symmetricColumns [(8, 192), (8, 640), (8, 1023)], by decide, rfl⟩

/-- Shadows only lower a level (R91). -/
theorem shadowedLevel_le (windows : List Window) (c r level : Nat) : shadowedLevel windows c r level ≤ level := by
  unfold shadowedLevel
  refine List.foldlRecOn (motive := (· ≤ level)) windows _ (Nat.le_refl level) fun low hlow w _ => ?_
  split
  · exact Nat.le_trans (Nat.min_le_left _ _) hlow
  · exact hlow

/-- A ramp never passes its target (R93). -/
theorem ramp_le (upStep old target : Nat) : ramp upStep old target ≤ target := by
  unfold ramp
  split <;> omega

section
variable {s : State} (cal : CalibrationLaw s)
include cal

theorem profileLevel_between (p : Profile) (j : Int) : 0 ≤ profileLevel s p j ∧ profileLevel s p j ≤ 1023 := by
  obtain ⟨ht, columns, length, spec⟩ := profileTable_spec p
  unfold profileLevel
  split
  · have lt : j.toNat < columns.length := by omega
    refine item_in_range (item := ⟨0, 1023, columns[j.toNat]⟩) cal ht ?_
    rw [spec, profileSpec, List.getElem?_append_left (by simpa using lt), List.getElem?_map, List.getElem?_eq_getElem lt]
    rfl
  · omega

theorem rowGain_between (p : Profile) {r : Nat} (hr : r < 4) : 0 ≤ rowGain s p r ∧ rowGain s p r ≤ 256 := by
  obtain ⟨ht, columns, length, spec⟩ := profileTable_spec p
  have gains : ∃ gain, (tableSpec p.table)[48 + r]? = some ⟨0, 256, gain⟩ := by
    rw [spec, profileSpec, List.getElem?_append_right (by simp [length]), List.length_map, length, Nat.add_sub_cancel_left]
    match r, hr with
    | 0, _ => exact ⟨256, rfl⟩
    | 1, _ => exact ⟨256, rfl⟩
    | 2, _ => exact ⟨192, rfl⟩
    | 3, _ => exact ⟨128, rfl⟩
  obtain ⟨gain, hg⟩ := gains
  exact item_in_range (item := ⟨0, 256, gain⟩) cal ht hg

/-- A column level is a mean of two profile levels, weighted by sixteenths (R89). -/
theorem columnLevel_between (p : Profile) (shift : Int) (c : Nat) :
    0 ≤ columnLevel s p shift c ∧ columnLevel s p shift c ≤ 1023 := by
  unfold columnLevel
  extract_lets position i f
  have hf : 0 ≤ f ∧ f ≤ 15 := by
    have : i = position / 16 := Int.fdiv_eq_ediv_of_nonneg _ (by decide)
    omega
  obtain ⟨low0, low1⟩ := profileLevel_between cal p i
  obtain ⟨high0, high1⟩ := profileLevel_between cal p (i + 1)
  have weight : 0 ≤ 16 - f := by omega
  have lower0 := Int.mul_nonneg low0 weight
  have lower1 := Int.mul_le_mul_of_nonneg_right low1 weight
  have upper0 := Int.mul_nonneg high0 hf.1
  have upper1 := Int.mul_le_mul_of_nonneg_right high1 hf.1
  exact truncDiv_between (by decide) (Int.add_nonneg lower0 upper0) (by omega)

theorem envelopeLevel_le (results : ShaperResults) (h : Head) (c : Nat) {r : Nat} (hr : r < 4) :
    envelopeLevel s results h c r ≤ 1023 := by
  unfold envelopeLevel
  split
  · exact Nat.zero_le _
  · obtain ⟨level0, level1⟩ := columnLevel_between cal results.profile (results.bend h) c
    obtain ⟨gain0, gain1⟩ := rowGain_between cal results.profile hr
    have := truncDiv_between (m := 1023) (b := 256) (by decide) (Int.mul_nonneg level0 gain0)
      (Int.mul_le_mul level1 gain1 gain0 (by decide))
    omega

theorem safeTarget_le (highBeam : Bool) (h : Head) (c r : Nat) : safeTarget s highBeam h c r ≤ 1023 := by
  have safeLevel : 0 ≤ s.item 0 6 ∧ s.item 0 6 ≤ 400 := item_in_range (item := ⟨0, 400, 0⟩) cal (by decide) rfl
  unfold safeTarget State.itemNat
  split
  · exact Nat.zero_le _
  · split <;> omega

theorem segmentTarget_le (c : Composition) (h : Head) (windows : List Window) (col : Nat) {r : Nat} (hr : r < 4) :
    segmentTarget s c h windows col r ≤ 1023 := by
  unfold segmentTarget
  split
  · exact Nat.le_trans (shadowedLevel_le _ _ _ _) (envelopeLevel_le cal _ _ _ hr)
  · exact safeTarget_le cal _ _ _ _

theorem levelArray_composedLevels (c : Composition) (h : Head) (windows : List Window) :
    LevelArray (composedLevels s c h windows) :=
  levelArray_matrixOf fun _ _ _ hr => Nat.le_trans (ramp_le _ _ _) (segmentTarget_le cal c h windows _ hr)

end

section
variable {s : State}

/-! ## The Composer and the frame clock -/

theorem InRange.completeComposition (h : InRange s) (c : Composition) : InRange (completeComposition c s) :=
  ⟨h.tables, h.left, h.right, h.sent⟩

theorem InRange.endHeadStage (h : InRange s) (c : Composition) (k : Head) (rest : List Head) :
    InRange (endHeadStage c k rest s) := by
  have levels := levelArray_composedLevels h.tables c k (compositionShadows s c k)
  have staged := InRange.stageFrame
    (s := { s.setHead k { s.head k with applied := composedLevels s c k (compositionShadows s c k) } with
      composition := some (c.composed k (compositionShadows s c k) rest) })
    (h.setHead k ((h.head k).apply levels)) k levels
  unfold Machine.endHeadStage
  dsimp only
  split
  · exact staged.completeComposition _
  · exact staged

theorem InRange.finishHeadStage (h : InRange s) : InRange (finishHeadStage s) := by
  unfold Machine.finishHeadStage
  split
  · exact h
  · split
    · exact h.completeComposition _
    · exact h.endHeadStage _ _ _

theorem InRange.stageDirectFrames (h : InRange s) : InRange (stageDirectFrames s) := by
  unfold Machine.stageDirectFrames
  refine List.foldlRecOn (motive := InRange) _ _ h fun t ht k _ => ?_
  obtain ⟨_, direct, _, _⟩ := ht.head k
  exact ht.stageFrame k direct

theorem InRange.frameClock (h : InRange s) : InRange (frameClock s) := by
  have moved : InRange { s with framePhase := s.framePhase.map (· + millis s.framePeriod) } := h
  unfold Machine.frameClock takeFrameStart
  split
  · split <;> exact h
  · split <;> exact h
  · exact moved.stageDirectFrames
  · exact h
  · exact h

/-! ## Modes -/

theorem InRange.teardown (h : InRange s) : InRange (teardown s) :=
  ⟨h.tables, headLevels_rest, headLevels_rest, nofun⟩

theorem InRange.abortDirect (h : InRange s) : InRange (abortDirect s) :=
  (h.teardown.latch _ _).answerHeld _ _

theorem InRange.enterActive (h : InRange s) : InRange (enterActive s) :=
  ⟨h.tables, h.left, h.right, h.sent⟩

theorem InRange.enterDirect (h : InRange s) : InRange (enterDirect s) :=
  ⟨h.tables, h.left.redirect levelArray_darkFrame, h.right.redirect levelArray_darkFrame, h.sent⟩

theorem InRange.recoverIfSeen (h : InRange s) : InRange (recoverIfSeen s) := by
  unfold Machine.recoverIfSeen
  split <;> exact h

theorem InRange.afterSceneAccepted (h : InRange s) : InRange (afterSceneAccepted s) := by
  unfold Machine.afterSceneAccepted
  split
  · exact h
  · exact h
  · exact h
  · exact InRange.recoverIfSeen (s := { s with sceneSeen := true }) h
  · split
    · exact h.abortDirect
    · exact h

theorem InRange.afterTrackAccepted (h : InRange s) : InRange (afterTrackAccepted s) := by
  unfold Machine.afterTrackAccepted
  split
  · exact h
  · exact InRange.recoverIfSeen (s := { s with trackSeen := true }) h
  · exact h
  · exact h
  · exact h

theorem InRange.sceneTimerExpired (h : InRange s) : InRange (sceneTimerExpired s) := by
  unfold Machine.sceneTimerExpired
  split
  · exact h.latch _ _
  · exact h.abortDirect
  · exact h
  · exact h
  · exact h

theorem InRange.trackTimerExpired (h : InRange s) : InRange (trackTimerExpired s) := by
  unfold Machine.trackTimerExpired
  split
  · exact h.latch _ _
  · exact h
  · exact h
  · exact h
  · exact h

/-! ## The Calibration Store -/

/-- The values of a sound group lie in their ranges (R178). -/
theorem groupSound_admitted {image : List Byte} {g : Nat} (h : groupSound image g = true) :
    valuesAdmitted (tableSpec g) (groupValues image g) = true := by
  unfold groupSound at h
  exact (Bool.and_eq_true_iff.1 h).2

theorem InRange.judgeGroup (h : InRange s) (image : List Byte) (g : Nat) : InRange (judgeGroup image s g) := by
  unfold Machine.judgeGroup
  split
  · exact h
  · split
    · rename_i sound
      exact ⟨h.tables.set (groupSound_admitted sound), h.left, h.right, h.sent⟩
    · exact h.latch _ _

theorem InRange.loadImage (h : InRange s) (image : List Byte) : InRange (loadImage image s) :=
  List.foldlRecOn (motive := InRange) (List.range 8) (Machine.judgeGroup image) (b := { s with holdingBuffer := image }) h
    fun _ ht g _ => ht.judgeGroup image g

theorem InRange.failAutoload (h : InRange s) : InRange (failAutoload s) := by
  have defaults : InRange { s with holdingBuffer := [], tables := defaultTables } :=
    ⟨tablesAdmitted_default, h.left, h.right, h.sent⟩
  exact defaults.latch .calAbsent 0

theorem InRange.finishAutoload (h : InRange s) (image : List Byte) : InRange (finishAutoload image s) := by
  unfold Machine.finishAutoload
  split
  · exact h
  · split
    · exact h.failAutoload
    · split
      · exact h.loadImage image
      · exact h

theorem InRange.missAcknowledge (h : InRange s) : InRange (missAcknowledge s) := by
  unfold Machine.missAcknowledge
  split
  · exact h
  · exact h.failAutoload

/-- An item in range is written (R179). -/
theorem InRange.setItem (h : InRange s) {table index : Nat} {value : Int} (admits : itemAdmits table index value = true) :
    InRange (setItem table index value s) := by
  unfold itemAdmits at admits
  split at admits
  · rename_i item hi
    exact ⟨h.tables.modify fun values hv => valuesAdmitted_set hv hi admits, h.left, h.right, h.sent⟩
  · cases admits

/-- CONFIG WRITE stops before the first value out of range (R179). -/
theorem InRange.writeItems (h : InRange s) (table n index : Nat) (bytes : List Byte) :
    InRange (writeItems table n index bytes s).1 := by
  induction n generalizing s index bytes with
  | zero => exact h
  | succ n ih =>
    unfold Machine.writeItems
    dsimp only
    split
    · rename_i admits
      exact ih (h.setItem admits) _ _
    · exact h

/-! ## Requests -/

theorem InRange.serveScene (h : InRange s) (f : LinkFrame) : InRange (serveScene f s) := by
  unfold Machine.serveScene
  split
  · exact h
  · split
    · exact h
    · exact InRange.afterSceneAccepted (s := { s with scene := (takeScene f.payload s.timeBase s.scene).1 }) h

/-- Observations write slots and counters alone (R24). -/
theorem InRange.acceptTrack (h : InRange s) (f : LinkFrame) : InRange (acceptTrack f s) := by
  have accepted := InRange.afterTrackAccepted (s := { s with lastTrackTime := s.timeBase, trackAccepted := true }) h
  have observed := accepted.table
    (observeAll_only (trackExposure f) (parseObservations (trackCount f.payload) (f.payload.drop 4)) _)
  exact observed

theorem InRange.serveTrack (h : InRange s) (f : LinkFrame) : InRange (serveTrack f s) := by
  unfold Machine.serveTrack
  split
  · exact h
  · split
    · exact h
    · split
      · exact h
      · exact h.acceptTrack f

theorem InRange.serveDrop (h : InRange s) (f : LinkFrame) : InRange (serveDrop f s) := by
  unfold Machine.serveDrop dropEntries
  repeat' split
  all_goals exact h

theorem InRange.modeToStandby (h : InRange s) (f : LinkFrame) : InRange (modeToStandby f s) := by
  unfold Machine.modeToStandby
  split
  · exact h
  · exact h.teardown
  · exact h.teardown
  · exact h.teardown
  · exact h

theorem InRange.modeToActive (h : InRange s) (f : LinkFrame) : InRange (modeToActive f s) := by
  unfold Machine.modeToActive activate
  split
  · split
    · exact h
    · exact h.enterActive
  all_goals exact h

theorem InRange.modeToDirect (h : InRange s) (f : LinkFrame) : InRange (modeToDirect f s) := by
  unfold Machine.modeToDirect directIfSlow
  split
  · split
    · exact h
    · split
      · exact h
      · exact h.enterDirect
  all_goals exact h

theorem InRange.serveMode (h : InRange s) (f : LinkFrame) : InRange (serveMode f s) := by
  unfold Machine.serveMode
  split
  · exact h
  · split
    · exact h
    · split
      · exact h.modeToStandby f
      · exact h.modeToActive f
      · exact h.modeToDirect f
      · exact h

/-- A QUERY writes no item and no level (R171). -/
theorem InRange.serveQuery (h : InRange s) (f : LinkFrame) : InRange (serveQuery f s) := by
  unfold Machine.serveQuery answerQuery Machine.queryShadows Machine.queryLevels
  repeat' split
  all_goals exact h

theorem InRange.serveConfigWrite (h : InRange s) (f : LinkFrame) : InRange (serveConfigWrite f s) := by
  unfold Machine.serveConfigWrite
  dsimp only
  split
  · exact h
  · split
    · exact h
    · split
      · exact h
      · exact h.writeItems _ _ _ _

theorem InRange.serveConfigRead (h : InRange s) (f : LinkFrame) : InRange (serveConfigRead f s) := by
  unfold Machine.serveConfigRead
  dsimp only
  repeat' split
  all_goals exact h

theorem InRange.writeDirect (h : InRange s) (k : Head) (g : Nat) (values : List Nat) : InRange (writeDirect k g values s) := by
  obtain ⟨_, direct, _, _⟩ := h.head k
  exact h.setHead k ((h.head k).redirect (levelArray_writeGroup direct g values))

theorem InRange.serveDirectLevels (h : InRange s) (f : LinkFrame) : InRange (serveDirectLevels f s) := by
  unfold Machine.serveDirectLevels
  split
  · exact h
  · split
    · exact h
    · split
      · exact h
      · split
        · exact h
        · exact h.writeDirect _ _ _

theorem InRange.serveNodePass (h : InRange s) (f : LinkFrame) : InRange (serveNodePass f s) := by
  unfold Machine.serveNodePass
  split
  · exact h
  · split
    · exact h
    · split
      · exact h
      · exact InRange.requestArrived (s := { s with
          handler := .serving f
          passThrough := some { node := (byteAt f.payload 0).toNat, bytes := f.payload.drop 1, inFlight := false } }) h

theorem InRange.serve (h : InRange s) (f : LinkFrame) : InRange (serve f s) := by
  unfold Machine.serve
  split
  · exact h.serveScene f
  · exact h.serveTrack f
  · exact h.serveDrop f
  · exact h.serveMode f
  · exact h.serveQuery f
  · exact h.serveConfigWrite f
  · exact h.serveConfigRead f
  · exact h.serveDirectLevels f
  · exact h.serveNodePass f
  · exact h

theorem InRange.takeNext (h : InRange s) : InRange (takeNext s) := by
  unfold Machine.takeNext
  split
  · exact h
  · exact h
  · split
    · exact h
    · rename_i f rest _
      exact InRange.serve (s := { s with inbound := rest }) h f

theorem InRange.offerFrame (h : InRange s) (f : LinkFrame) : InRange (offerFrame f s) := by
  unfold Machine.offerFrame
  split
  · exact InRange.takeNext (s := { s with inbound := s.inbound ++ [f] }) h
  · exact h

theorem InRange.finishReply (h : InRange s) : InRange (finishReply s) :=
  InRange.takeNext (s := { s with replyBuffer := none, handler := .idle }) h

/-! ## The vehicle link -/

theorem InRange.completeFrame (h : InRange s) (b : Byte) : InRange (completeFrame b s) := by
  have done : InRange { s with framer := .hunt, rxBytes := [] } := h
  unfold Machine.completeFrame
  dsimp only
  split
  · exact done.offerFrame _
  · exact h

theorem InRange.goodByte (h : InRange s) (b : Byte) : InRange (goodByte b s) := by
  unfold Machine.goodByte
  split
  · exact h
  · split <;> exact h
  · unfold headerByte
    split
    · exact h
    · split <;> exact h
  · exact h
  · unfold crcByte
    split
    · exact h
    · exact h.completeFrame b

theorem InRange.receiveLinkByte (h : InRange s) (b : Byte) (framingError : Bool) :
    InRange (receiveLinkByte b framingError s) := by
  have silent : InRange { s with rxSilentSince := some s.micros } := h
  unfold Machine.receiveLinkByte faultyByte
  dsimp only
  split
  · split <;> exact h
  · exact silent.goodByte b

/-! ## Moments, commands and steps -/

theorem InRange.happen (h : InRange s) (c : Instr) : InRange (happen c s) := by
  unfold Machine.happen
  split
  · exact h.failAutoload
  · exact h.sceneTimerExpired
  · exact h.trackTimerExpired
  · exact h.frameClock
  · exact h
  · exact h.finishReply
  · exact h.finishBlock
  · exact h.failExchange
  · exact h.failExchange
  · exact h.failExchange
  · exact h

theorem InRange.runTo (h : InRange s) (n : Nat) (c : Instr) : InRange (runTo n c s) :=
  runTo_induction (P := InRange) (fun _ hs => hs)
    (fun d t u hu _ _ => InRange.happen (s := passTo t u) hu d) n c s h

/-- Every command keeps the items and the levels in range. -/
theorem InRange.after (h : InRange s) (c : Instr) : InRange (after c s) := by
  by_cases own : c ∈ ownCommands
  · rw [exec_next_iff.1 (exec_own own s)]
    exact h.runTo _ _
  · cases c
    case reset strap => exact inRange_reset
    case autoloadReadComplete image => exact h.finishAutoload image
    case eepromNoAcknowledge => exact h.missAcknowledge
    case frameReceived b => exact h.receiveLinkByte b false
    case frameAbandoned b framingError => exact h.receiveLinkByte b framingError
    case linkByteReceived input =>
      cases input
      · exact h
      · exact h.receiveLinkByte _ false
    case headStageComplete => exact h.finishHeadStage
    case echoReceived port b => exact h.receiveEchoByte port b false
    case echoByteReceived port input stopLow =>
      cases input
      · exact h.beginEchoByte port
      · exact h.receiveEchoByte port _ stopLow
    all_goals first | exact h.offerFrame _ | exact absurd (by decide) own

theorem InRange.step {t : State} (h : InRange s) (e : step s = .next t) : InRange t := by
  have key : ∀ t, Machine.step s = .next t → InRange t :=
    step_cases (P := fun r => ∀ t, r = .next t → InRange t)
      (fun c pending ties t ht => by
        rw [← exec_next_iff.1 ht]
        exact InRange.after (s := { s with pending, ties }) h c)
      (fun t ht => by cases ht; exact h)
  exact key t e

end

/-- Settles O54: both laws, held together as `InRange`, are kept by every operation and so by every step. -/
theorem stepKeepsCalibrationAndLevels : Obligations.StepKeepsCalibrationAndLevels := by
  unfold Obligations.StepKeepsCalibrationAndLevels
  exact fun s t calibration levels e => inRange_iff.1 ((inRange_iff.2 ⟨calibration, levels⟩).step e)

end Sys2Proof.Machine
end

section
/-! PROOFS. The state after reset meets every law. -/

namespace Sys2Proof.Machine

/-- No slot holds an entry, so that no two entries share an id (R18). -/
theorem targetTableLaw_reset : TargetTableLaw State.reset := by decide

/-- In START no frame is sent. -/
theorem cursorLaw_reset : CursorLaw State.reset := fun notAtRest => absurd (.inl rfl) notAtRest

theorem nodeLaw_reset : NodeLaw State.reset := by
  refine ⟨List.length_replicate, fun r hr => ?_⟩
  obtain rfl := List.eq_of_mem_replicate hr
  exact ⟨by decide, by decide, fun _ => by decide +kernel⟩

/-- No timer, no clock, no frame, no reply and no exchange is under way; the autoload has all of its 500 ms. -/
theorem punctualLaw_reset : PunctualLaw State.reset :=
  ⟨nofun, nofun, nofun, fun _ => by decide, nofun, nofun, nofun⟩

theorem entryLaw_reset : EntryLaw State.reset := by
  refine ⟨fun e he => ?_, fun c e hc => ?_⟩
  · have free : some e = none := List.eq_of_mem_replicate he
    cases free
  · cases hc

theorem modeLaw_reset : ModeLaw State.reset := by
  refine ⟨rfl, nofun, nofun, nofun, ?_, ?_, ?_⟩ <;> decide

theorem restLaw_reset : RestLaw State.reset :=
  ⟨rfl, fun _ => ⟨rfl, rfl, rfl, rfl, rfl, rfl, rfl, rfl, rfl, rfl, rfl⟩⟩

theorem shaperLaw_reset : ShaperLaw State.reset :=
  ⟨by decide +kernel, by decide +kernel, by decide +kernel, nofun⟩

theorem shadowCountLaw_reset : ShadowCountLaw State.reset := by
  refine ⟨by decide, by decide, fun c hc => ?_⟩
  cases hc

/-- Settles O52: law by law. -/
theorem lawsHoldAfterReset : Obligations.LawsHoldAfterReset := by
  unfold Obligations.LawsHoldAfterReset
  obtain ⟨calibration, levels⟩ := inRange_iff.1 inRange_reset
  have faults : FaultListLaw State.reset := ⟨by decide, .nil, nofun⟩
  have counters : CounterLaw State.reset := by decide
  have handler : HandlerLaw State.reset := ⟨by decide, rfl, rfl, rfl⟩
  have sequencer : SequencerLaw State.reset := ⟨rfl, rfl, rfl, rfl, rfl, rfl⟩
  have directSpeed : DirectSpeedLaw State.reset := ⟨rfl, nofun⟩
  have scene : SceneLaw State.reset := by decide
  exact ⟨targetTableLaw_reset, calibration, levels, faults, counters, handler, sequencer, nofun, modeLaw_reset,
    restLaw_reset, directSpeed, scene, shaperLaw_reset, shadowCountLaw_reset, nofun, punctualLaw_reset,
    entryLaw_reset, nodeLaw_reset, cursorLaw_reset⟩

end Sys2Proof.Machine
end

section
/-! PROOFS. The node ranges and NODE PASS (R10 to R13, R118, R119, R125, R126). -/

namespace Sys2Proof.Machine

/-! ## Presence, node count and route -/

/-- A head is absent when its first and last node ids are both 0 (R10). -/
theorem present_iff {s : State} {h : Head} : s.present h = true ↔ ¬ (s.firstNode h = 0 ∧ s.lastNode h = 0) := by
  rw [State.present, Decidable.not_and_iff_not_or_not]
  simp only [Bool.not_eq_true', Bool.and_eq_false_iff, beq_eq_false_iff_ne, ne_eq]

theorem nodeCount_absent {s : State} {h : Head} (absent : s.present h = false) : s.nodeCount h = 0 := by
  simp [State.nodeCount, absent]

/-- The node count of a present head is last - first + 1 (R10). -/
theorem nodeCount_present {s : State} {h : Head} (present : s.present h = true) (ordered : s.firstNode h ≤ s.lastNode h) :
    (s.nodeCount h : Int) = s.lastNode h - s.firstNode h + 1 := by
  rw [State.nodeCount, if_pos present]
  omega

/-- A node id lies in the range of a present head (R13). -/
def State.routesTo (s : State) (node : Nat) (h : Head) : Prop :=
  s.present h = true ∧ s.firstNode h ≤ (node : Int) ∧ (node : Int) ≤ s.lastNode h

/-- The test by which `routeOf` searches the heads. -/
theorem routesTo_iff {s : State} {node : Nat} {h : Head} :
    (s.present h && decide (s.firstNode h ≤ (node : Int)) && decide ((node : Int) ≤ s.lastNode h)) = true ↔
      s.routesTo node h := by
  simp [State.routesTo, and_assoc]

theorem routesTo_of_routeOf {s : State} {node : Nat} {h : Head} (e : s.routeOf node = some h) : s.routesTo node h :=
  by
  have found := List.find?_some e
  exact routesTo_iff.1 found

theorem not_routesTo_of_routeOf {s : State} {node : Nat} (e : s.routeOf node = none) (h : Head) : ¬ s.routesTo node h := by
  intro routes
  have mem : h ∈ [Head.left, Head.right] := by cases h <;> decide
  exact List.find?_eq_none.1 e h mem (routesTo_iff.2 routes)

/-- Of the two heads, one is this or the other. -/
theorem eq_or_eq_other (h k : Head) : k = h ∨ k = h.other := by
  cases h <;> cases k <;> simp [Head.other]

/-- A node id in the range of one head alone is routed there (R13). -/
theorem routeOf_of_routesTo {s : State} {node : Nat} {h : Head} (routes : s.routesTo node h)
    (alone : ¬ s.routesTo node h.other) : s.routeOf node = some h := by
  cases e : s.routeOf node with
  | none => exact absurd routes (not_routesTo_of_routeOf e h)
  | some k =>
    have found := routesTo_of_routeOf e
    obtain rfl | rfl := eq_or_eq_other h k
    · rfl
    · exact absurd found alone

/-! ## The handing of a pass-through (R118, R119, R125) -/

/-- A NODE PASS of fitting length in DIRECT is routed (R125). -/
theorem serveNodePass_direct {s : State} {f : LinkFrame} (direct : s.mode = .direct) (low : 2 ≤ f.payload.length)
    (high : f.payload.length ≤ 21) :
    serveNodePass f s =
      if (s.routeOf (byteAt f.payload 0).toNat).isNone then answer f .noRoute [] s else holdPass f s := by
  rw [serveNodePass, if_neg (by omega), if_neg (not_not_intro direct)]

/-- A free Link Sequencer grants a waiting pass-through at once (R118, R119). -/
theorem requestArrived_pass {s : State} {p : PassThrough} (free : s.grant = .none) (waits : s.passThrough = some p)
    (notYet : p.inFlight = false) : requestArrived s = grantPass p s := by
  rw [requestArrived, if_pos free, arbitrate, waits]
  simp [notYet]

/-- At a busy Link Sequencer a requester waits (R118). -/
theorem requestArrived_busy {s : State} (busy : SequencerBusy s) : requestArrived s = s := if_neg busy

/-- A granted pass-through is in flight, its service block starting on the port of its node (R126). -/
theorem grantPass_routed {s : State} {p : PassThrough} {h : Head} (routed : s.routeOf p.node = some h) :
    grantPass p s =
      { s with
        grant := .pass, grantStart := some s.micros, passThrough := some { p with inFlight := true },
        exchange := some
          { port := h, node := p.node, content := .service p.bytes, startedAt := s.micros, phase := .sending } } := by
  rw [grantPass, routed]
  rfl

/-- The waiting pass-through that a NODE PASS asks for (R125). -/
def LinkFrame.asPass (f : LinkFrame) : PassThrough :=
  { node := (byteAt f.payload 0).toNat, bytes := f.payload.drop 1, inFlight := false }

/-- An accepted NODE PASS at a free Link Sequencer (R125, R126). -/
theorem holdPass_free {s : State} {f : LinkFrame} {h : Head} (free : s.grant = .none)
    (routed : s.routeOf f.asPass.node = some h) :
    holdPass f s =
      { s with
        handler := .serving f, grant := .pass, grantStart := some s.micros,
        passThrough := some { f.asPass with inFlight := true },
        exchange := some
          { port := h, node := f.asPass.node, content := .service f.asPass.bytes, startedAt := s.micros,
            phase := .sending } } :=
  calc holdPass f s
    _ = grantPass f.asPass { s with handler := .serving f, passThrough := some f.asPass } :=
        requestArrived_pass free rfl rfl
    _ = _ := grantPass_routed routed

/-- An accepted NODE PASS at a busy Link Sequencer (R118, R125). -/
theorem holdPass_busy {s : State} {f : LinkFrame} (busy : SequencerBusy s) :
    holdPass f s = { s with handler := .serving f, passThrough := some f.asPass } :=
  requestArrived_busy busy

/-- Settles O35: the three answers of a NODE PASS, then the node ranges. -/
theorem nodePassIsHandedToTheSequencer : Obligations.NodePassIsHandedToTheSequencer := by
  unfold Obligations.NodePassIsHandedToTheSequencer
  refine ⟨fun tag node bytes s ready direct low high => ?_, fun s => ?_⟩
  · intro request
    have taken : exec (.nodePass tag (node :: bytes)) s = .next
        (if (s.routeOf node.toNat).isNone then answer request .noRoute [] s else holdPass request s) := by
      have routed := serveNodePass_direct (f := request) direct (Nat.succ_le_succ low) (Nat.succ_le_succ high)
      rw [exec_request rfl, request_ready ready, serve_nodePass rfl, routed]
      rfl
    refine ⟨fun unrouted => ?_, fun h routed free => ?_, fun h routed busy => ?_⟩
    · rw [unrouted] at taken
      exact ⟨_, taken, answer_replied _ _ _ _ _ _ _, rfl⟩
    · rw [taken, routed, Option.isNone_some, if_neg Bool.false_ne_true]
      exact congrArg _ (holdPass_free free routed)
    · rw [taken, routed, Option.isNone_some, if_neg Bool.false_ne_true]
      exact congrArg _ (holdPass_busy busy)
  · intro first last absent holds
    have first_eq : ∀ h, s.firstNode h = first h := fun h => by cases h <;> rfl
    have last_eq : ∀ h, s.lastNode h = last h := fun h => by cases h <;> rfl
    have present_iff' : ∀ h, s.present h = true ↔ ¬ absent h := fun h => by
      rw [present_iff, first_eq, last_eq]
    have holds_iff : ∀ h id, holds h id ↔ s.routesTo id h := fun h id => by
      rw [State.routesTo, present_iff', first_eq, last_eq]
    refine ⟨fun h => ⟨present_iff' h, first_eq h, last_eq h, fun gone => ?_, fun here ordered => ?_⟩,
      fun id => ⟨fun h e => ?_, fun h here alone => ?_, fun e h here => ?_⟩⟩
    · exact nodeCount_absent (by simpa [gone] using present_iff' h)
    · rw [← first_eq, ← last_eq] at *
      exact nodeCount_present ((present_iff' h).2 here) ordered
    · exact (holds_iff h id).2 (routesTo_of_routeOf e)
    · exact routeOf_of_routesTo ((holds_iff h id).1 here) fun k => alone ((holds_iff _ _).2 k)
    · exact not_routesTo_of_routeOf e h ((holds_iff h id).1 here)

end Sys2Proof.Machine
end

section
/-! PROOFS. A frame start that begins no composition: dropped, staging the direct frames, or without effect (R84, R100). -/

namespace Sys2Proof.Machine

/-! ## Slots through several handings (R102) -/

theorem OnlySlots.refl (k : Head) (s : State) : OnlySlots k s s := ⟨rfl, .inl rfl⟩

theorem OnlySlots.trans {k : Head} {s t u : State} (h : OnlySlots k s t) (g : OnlySlots k t u) : OnlySlots k s u := by
  obtain ⟨first, emptied⟩ := h
  obtain ⟨second, emptied'⟩ := g
  refine ⟨by rw [second, first], ?_⟩
  rcases emptied' with e | e
  · exact e ▸ emptied
  · exact .inr e

/-- The handing of a frame leaves of every head all but its staged and live slots (R102). -/
theorem stageFrame_head (h k : Head) (levels : List Nat) (s : State) :
    (stageFrame h levels s).head k = { s.head k with
      staged := ((stageFrame h levels s).head k).staged, live := ((stageFrame h levels s).head k).live } := by
  obtain ⟨_, own, other⟩ := stageFrame_slots h levels s
  obtain rfl | rfl := eq_or_eq_other h k
  · exact own
  · exact other.1

theorem stageFrame_timeBase (h : Head) (levels : List Nat) (s : State) : (stageFrame h levels s).timeBase = s.timeBase :=
  timeBase_congr (stageFrame_only h levels s).clock.2.2.1

/-- A frame that waits or is granted does so still after a requester's arrival: a waiting one may be granted by it, and a
granted one keeps its grant (R103, R118). -/
theorem WaitsOrGranted.requestArrived {h : Head} {f : StagedFrame} {s : State} (waits : WaitsOrGranted h f s) :
    WaitsOrGranted h f (requestArrived s) := by
  rcases waits with staged | granted
  · exact (requestArrived_slots h f s staged).1
  · have busy : SequencerBusy s := by rw [SequencerBusy, granted.1]; exact nofun
    rw [requestArrived_busy busy]
    exact .inr granted

/-- The same, after a frame has been handed to the other head (R102). -/
theorem WaitsOrGranted.stageFrame_other {h : Head} {f : StagedFrame} {s : State} (waits : WaitsOrGranted h f s)
    (levels : List Nat) : WaitsOrGranted h f (stageFrame h.other levels s) := by
  have counted : WaitsOrGranted h f
      (if (s.head h.other).staged.isSome then countEvent (.superseded h.other) s else s) := by
    split <;> exact waits
  refine WaitsOrGranted.requestArrived ?_
  have untouched := setHead_head_other h.other
  rw [other_other] at untouched
  unfold WaitsOrGranted at *
  simpa [untouched] using counted

/-! ## One frame for each of several heads -/

/-- A frame is handed to each of several heads, in their order. -/
def stageFrames (frames : Head → List Nat) (heads : List Head) (s : State) : State :=
  heads.foldl (fun u h => stageFrame h (frames h) u) s

section
variable (frames : Head → List Nat)

theorem stageFrames_head (heads : List Head) (k : Head) (s : State) :
    (stageFrames frames heads s).head k = { s.head k with
      staged := ((stageFrames frames heads s).head k).staged, live := ((stageFrames frames heads s).head k).live } := by
  induction heads generalizing s with
  | nil => rfl
  | cons h heads ih =>
    have later := ih (stageFrame h (frames h) s)
    rw [stageFrame_head] at later
    exact later

/-- A head that is handed no frame (R119): its staged slot is as it was, or has been emptied by a grant. -/
theorem stageFrames_not_mem {heads : List Head} {k : Head} (absent : k ∉ heads) (s : State) :
    OnlySlots k s (stageFrames frames heads s) := by
  induction heads generalizing s with
  | nil => exact .refl k s
  | cons h heads ih =>
    obtain ⟨ne, notLater⟩ := not_or.1 (mt List.mem_cons.2 absent)
    obtain rfl := (eq_or_eq_other h k).resolve_left ne
    exact (stageFrame_slots h (frames h) s).2.2.trans (ih notLater _)

theorem WaitsOrGranted.stageFrames_not_mem {heads : List Head} {h : Head} (absent : h ∉ heads) {f : StagedFrame} {s : State}
    (waits : WaitsOrGranted h f s) : WaitsOrGranted h f (stageFrames frames heads s) := by
  induction heads generalizing s with
  | nil => exact waits
  | cons k heads ih =>
    obtain ⟨ne, notLater⟩ := not_or.1 (mt List.mem_cons.2 absent)
    obtain rfl := (eq_or_eq_other h k).resolve_left (Ne.symm ne)
    exact ih notLater (waits.stageFrame_other _)

/-- Each of the heads has its frame waiting or granted, ready at the time of the handing (R102, R103). -/
theorem waitsOrGranted_stageFrames {heads : List Head} (nodup : heads.Nodup) {h : Head} (mem : h ∈ heads) (s : State) :
    WaitsOrGranted h { levels := frames h, readyTime := s.timeBase } (stageFrames frames heads s) := by
  induction heads generalizing s with
  | nil => cases mem
  | cons k heads ih =>
    obtain ⟨once, nodup⟩ := List.nodup_cons.1 nodup
    rcases List.mem_cons.1 mem with rfl | mem
    · exact (stageFrame_slots h (frames h) s).1.stageFrames_not_mem frames once
    · have later := ih nodup mem (stageFrame k (frames k) s)
      rw [stageFrame_timeBase] at later
      exact later

end

/-! ## Direct frames (R100) -/

/-- The handing of a frame writes no direct frame, so that the frames staged are those at the frame start. -/
theorem stageDirectFrames_eq (s : State) :
    stageDirectFrames s = stageFrames (fun h => (s.head h).direct) s.presentHeads s := by
  have key : ∀ (heads : List Head) (t : State), (∀ k, (t.head k).direct = (s.head k).direct) →
      heads.foldl (fun t h => stageDirect h t) t = stageFrames (fun h => (s.head h).direct) heads t := by
    intro heads
    induction heads with
    | nil => exact fun _ _ => rfl
    | cons h heads ih =>
      intro t same
      have staged : stageDirect h t = stageFrame h (s.head h).direct t := by rw [stageDirect, same]
      rw [List.foldl_cons, staged, ih _ fun k => by rw [stageFrame_head, same]]
      rfl
  exact key s.presentHeads s fun _ => rfl

theorem presentHeads_nodup (s : State) : s.presentHeads.Nodup :=
  List.Pairwise.filter _ (by cases s.oncoming <;> decide)

theorem mem_presentHeads {s : State} {h : Head} : h ∈ s.presentHeads ↔ s.present h = true := by
  have mem : h ∈ [s.oncoming, s.oncoming.other] := by
    rcases eq_or_eq_other s.oncoming h with e | e <;> simp [e]
  exact ⟨fun i => (List.mem_filter.1 i).2, fun p => List.mem_filter.2 ⟨mem, p⟩⟩

/-- The oncoming-side head comes first: strap low, left; strap high, right (R5). -/
theorem presentHeads_eq (s : State) :
    s.presentHeads =
      (if s.trafficSideHigh = true then [Head.right, Head.left] else [Head.left, Head.right]).filter fun h => s.present h := by
  unfold State.presentHeads State.oncoming
  split <;> rfl

/-! ## Taking a frame start (R83, R84) -/

theorem takeFrameStart_dropped {s : State} (mode : s.mode = .active ∨ s.mode = .safe) (busy : s.composition ≠ none) :
    takeFrameStart s = countEvent .framesSkipped s := by
  have busy := Option.isSome_iff_ne_none.2 busy
  rcases mode with e | e <;> rw [takeFrameStart, e] <;> exact if_pos busy

theorem takeFrameStart_direct {s : State} (mode : s.mode = .direct) :
    takeFrameStart s = stageFrames (fun h => (s.head h).direct) s.presentHeads s := by
  rw [takeFrameStart, mode]
  exact stageDirectFrames_eq s

theorem takeFrameStart_atRest {s : State} (mode : s.mode = .start ∨ s.mode = .standby) : takeFrameStart s = s := by
  rcases mode with e | e <;> rw [takeFrameStart, e]

theorem takeFrameStart_timeBase (s : State) : (takeFrameStart s).timeBase = s.timeBase := by
  unfold takeFrameStart
  split
  · split <;> rfl
  · split <;> rfl
  · exact timeBase_congr (stageDirectFrames_only s).clock.2.2.1
  · rfl
  · rfl

/-- In DIRECT a frame start leaves each present head's direct frame waiting or granted, of an absent head's staged frame no
more than a grant, and of every head all else as it was (R100, R102, R103). -/
theorem takeFrameStart_direct_heads {s : State} (mode : s.mode = .direct) :
    (∀ h, s.present h = true →
      WaitsOrGranted h { levels := (s.head h).direct, readyTime := s.timeBase } (takeFrameStart s)) ∧
    (∀ h, s.present h = false → OnlySlots h s (takeFrameStart s)) ∧
    ∀ h, (takeFrameStart s).head h = { s.head h with
      staged := ((takeFrameStart s).head h).staged, live := ((takeFrameStart s).head h).live } := by
  rw [takeFrameStart_direct mode]
  refine ⟨fun h present => ?_, fun h absent => ?_, fun h => stageFrames_head _ _ h s⟩
  · exact waitsOrGranted_stageFrames _ (presentHeads_nodup s) (mem_presentHeads.2 present) s
  · exact stageFrames_not_mem _ (fun mem => by simp [mem_presentHeads.1 mem] at absent) s

/-- The state at the phase of the frame clock, the phase having moved on by one frame period (R83). -/
def State.atPhase (s : State) (phase : Millis) : State :=
  { s with micros := max s.micros (s.microsAt phase), framePhase := some (phase + millis (s.item 1 0)) }

theorem atPhase_timeBase (s : State) (phase : Millis) : (s.atPhase phase).timeBase = phase :=
  timeBase_passTo_microsAt phase s

/-- At the phase of the frame clock the frame start is taken (R83). -/
theorem exec_frameStart {s : State} {phase : Millis} (running : s.framePhase = some phase)
    (first : Undisturbed .frameStart s) : exec .frameStart s = .next (takeFrameStart (s.atPhase phase)) := by
  have cause : causeAt .frameStart s = some (s.microsAt phase) := congrArg (Option.map s.microsAt) running
  rw [exec_at cause first, happen, frameClock, running]
  rfl

/-- Settles O37: the stopped clock, then the frame start that each mode takes. -/
theorem frameStartIsDroppedOrStagesDirectFrames : Obligations.FrameStartIsDroppedOrStagesDirectFrames := by
  unfold Obligations.FrameStartIsDroppedOrStagesDirectFrames
  refine fun s => ⟨fun stopped => ?_, fun phase running first => ?_⟩
  · exact exec_without (by decide) (congrArg (Option.map s.microsAt) stopped)
  · have base := atPhase_timeBase s phase
    refine ⟨takeFrameStart (s.atPhase phase), (s.atPhase phase).micros, exec_frameStart running first, ?_,
      Nat.le_max_left _ _, ⟨?_, fun mode => ?_, ?_⟩, fun mode => ?_⟩
    · rw [takeFrameStart_timeBase, base]
    · exact takeFrameStart_dropped (s := s.atPhase phase)
    · rw [takeFrameStart_direct (s := s.atPhase phase) mode, presentHeads_eq]
      rfl
    · exact takeFrameStart_atRest (s := s.atPhase phase)
    · obtain ⟨present, absent, rest⟩ := takeFrameStart_direct_heads (s := s.atPhase phase) mode
      rw [base] at present
      refine ⟨fun h here => ?_, fun h gone => (absent h gone).2, rest⟩
      exact (present h here).imp_right fun ⟨granted, live, _⟩ => ⟨granted, live⟩

end Sys2Proof.Machine
end

section
/-! PROOFS. The window of an entry in a head (R48 to R56). -/

namespace Sys2Proof.Machine

/-! ## The rows met (R55) -/

/-- An elevation interval meets a row (R7, R55). -/
theorem mem_coveredRows {low high : Int} {r : Nat} :
    r ∈ coveredRows low high ↔ r < 4 ∧ 32 * (r : Int) - 16 ≤ high ∧ low ≤ 32 * (r : Int) + 15 := by
  rw [coveredRows, List.mem_filter, List.mem_range, Bool.and_eq_true, decide_eq_true_eq, decide_eq_true_eq, rowLow]
  omega

/-- The rows met are listed in ascending order. -/
theorem coveredRows_ascending (low high : Int) : (coveredRows low high).Pairwise (· < ·) :=
  List.pairwise_lt_range.filter _

/-- The lowest and the highest of some rows. -/
def Span (rows : List Nat) (bottom top : Nat) : Prop := bottom ∈ rows ∧ top ∈ rows ∧ ∀ r ∈ rows, bottom ≤ r ∧ r ≤ top

/-- Rows in ascending order span from the first to the last. -/
theorem span_cons {bottom : Nat} {rows : List Nat} (ascending : (bottom :: rows).Pairwise (· < ·)) :
    Span (bottom :: rows) bottom (rows.getLastD bottom) := by
  refine ⟨List.mem_cons_self, List.getLastD_mem_cons, ?_⟩
  induction rows generalizing bottom with
  | nil => simp
  | cons next rows ih =>
    obtain ⟨below, ascending⟩ := List.pairwise_cons.1 ascending
    have later := ih ascending
    have least := below next List.mem_cons_self
    have last := later next List.mem_cons_self
    refine List.forall_mem_cons.2 ⟨?_, fun r mem => ?_⟩ <;> rw [List.getLastD_cons]
    · omega
    · have := later r mem
      omega

theorem Span.unique {rows : List Nat} {a b c d : Nat} (h : Span rows a b) (k : Span rows c d) : a = c ∧ b = d := by
  obtain ⟨aMem, bMem, hBounds⟩ := h
  obtain ⟨cMem, dMem, kBounds⟩ := k
  have := hBounds c cMem
  have := hBounds d dMem
  have := kBounds a aMem
  have := kBounds b bMem
  omega

/-! ## What a window is made of (R53 to R56) -/

/-- The rows that an entry with its vertical margin meets (R55). -/
def rowsMet (s : State) (e : Entry) : List Nat :=
  coveredRows (e.elevB - s.tierVmargin e.tier) (e.elevT + s.tierVmargin e.tier)

/-- The columns of the left and of the right edge of an entry, off the matrix below 0 and above 47 (R53, R54). -/
def edgeColumns (s : State) (h : Head) (frameStart : Millis) (e : Entry) : Int × Int :=
  (columnOf (leftEdge s h (windowAge s frameStart e) e), columnOf (rightEdge s h (windowAge s frameStart e) e))

/-- The columns between the edges meet the matrix (R54). -/
abbrev MeetsMatrix (columns : Int × Int) : Prop := columns.1 ≤ 47 ∧ 0 ≤ columns.2

/-- The window between two edge columns, cut to the matrix, over the rows from `bottom` to `top` (R54 to R56). -/
def Window.between (columns : Int × Int) (bottom top residual : Nat) : Window :=
  { first := (max columns.1 0).toNat, last := (min columns.2 47).toNat, bottom, top, residual }

section
variable {s : State} {h : Head} {frameStart : Millis} {e : Entry}

theorem windowOf_eq_none_of_off (off : ¬ MeetsMatrix (edgeColumns s h frameStart e)) : windowOf s h frameStart e = none :=
  if_pos (by simp only [MeetsMatrix, edgeColumns] at off; omega)

/-- No window without a row met (R55). -/
theorem windowOf_eq_none_of_noRow (noRow : rowsMet s e = []) : windowOf s h frameStart e = none := by
  rw [rowsMet] at noRow
  simp only [windowOf, noRow, ite_self]

/-- On the matrix, the rows met in ascending order give the rows of the window (R54 to R56). -/
theorem windowOf_on (on : MeetsMatrix (edgeColumns s h frameStart e)) {bottom : Nat} {rows : List Nat}
    (met : rowsMet s e = bottom :: rows) :
    windowOf s h frameStart e =
      some (.between (edgeColumns s h frameStart e) bottom (rows.getLastD bottom) (s.tierResidual e.tier)) := by
  have inside : ¬ (47 < (edgeColumns s h frameStart e).1 ∨ (edgeColumns s h frameStart e).2 < 0) := by omega
  rw [edgeColumns] at inside
  rw [rowsMet] at met
  simp only [windowOf, if_neg inside, met]
  rfl

/-- An entry has a window exactly when its columns meet the matrix and its elevation meets rows, and it is the window
between the edges over the rows from the lowest to the highest met (R54 to R56). -/
theorem windowOf_eq_some_iff {w : Window} :
    windowOf s h frameStart e = some w ↔
      MeetsMatrix (edgeColumns s h frameStart e) ∧ ∃ bottom top, Span (rowsMet s e) bottom top ∧
        w = .between (edgeColumns s h frameStart e) bottom top (s.tierResidual e.tier) := by
  by_cases on : MeetsMatrix (edgeColumns s h frameStart e)
  · cases rows : rowsMet s e with
    | nil => simp [windowOf_eq_none_of_noRow rows, Span]
    | cons bottom later =>
      have span : Span (bottom :: later) bottom (later.getLastD bottom) := span_cons (rows ▸ coveredRows_ascending _ _)
      rw [windowOf_on on rows]
      refine ⟨fun same => ⟨on, bottom, _, span, (Option.some.inj same).symm⟩, ?_⟩
      rintro ⟨_, low, high, other, rfl⟩
      obtain ⟨rfl, rfl⟩ := span.unique other
      rfl
  · simp [windowOf_eq_none_of_off on, on]

/-- Rows met span from a lowest to a highest (R55). -/
theorem exists_span {r : Nat} (mem : r ∈ rowsMet s e) : ∃ bottom top, Span (rowsMet s e) bottom top := by
  cases rows : rowsMet s e with
  | nil => rw [rows] at mem; cases mem
  | cons bottom later => exact ⟨bottom, _, span_cons (rows ▸ coveredRows_ascending _ _)⟩

/-- The window of an entry is at the residual of the entry's tier (R56). -/
theorem windowOf_residual {w : Window} (yields : windowOf s h frameStart e = some w) :
    w.residual = s.tierResidual e.tier := by
  obtain ⟨_, _, _, _, rfl⟩ := windowOf_eq_some_iff.1 yields
  rfl

end

/-! ## The edges in numbers (R49 to R53) -/

/-- The parallax of the head's own offset (R50). -/
theorem parallax_eq (s : State) (h : Head) (e : Entry) :
    parallax s h e = if e.range = 0 then 0 else
      roundDiv ((match h with | .left => s.item 0 0 | .right => s.item 0 1) * 11734) (64 * (e.range : Int)) := by
  cases h <;> rfl

/-- The lead of a tier whose lead item is 1 (R52). -/
theorem windowLead_eq (s : State) (e : Entry) :
    windowLead s e = if s.item 3 (9 + 4 * e.tier) = 1 then
      min (Int.tdiv ((e.rate.natAbs : Int) * s.item 2 7) 1000) (s.item 2 8) else 0 := by
  simp only [windowLead, State.tierLead, truncDiv, decide_eq_true_eq]

/-- Settles O41: the clauses of `windowOf_eq_some_iff`, with edges, rows and residual written out. -/
theorem windowCoversTheWholeEntry : Obligations.WindowCoversTheWholeEntry := by
  unfold Obligations.WindowCoversTheWholeEntry
  intro s h frameStart e tier age shift offset parallax growth margin lead left right column meets onMatrix
  have leftColumn : columnOf (leftEdge s h (windowAge s frameStart e) e) = column left := by
    rw [leftEdge, parallax_eq, windowLead_eq]; rfl
  have rightColumn : columnOf (rightEdge s h (windowAge s frameStart e) e) = column right := by
    rw [rightEdge, parallax_eq, windowLead_eq]; rfl
  have columns : edgeColumns s h frameStart e = (column left, column right) := Prod.ext leftColumn rightColumn
  have met : ∀ r, r ∈ rowsMet s e ↔ meets r := fun r => mem_coveredRows
  have yields_iff : ∀ w, windowOf s h frameStart e = some w ↔ onMatrix ∧ ∃ bottom top, Span (rowsMet s e) bottom top ∧
      w = .between (column left, column right) bottom top (tier 2).toNat := fun w => by
    rw [windowOf_eq_some_iff, columns]; rfl
  refine ⟨fun off => ?_, fun noRow => ?_, fun on ⟨r, meetsRow⟩ => ?_, fun bottom top on low high spans => ?_,
    fun w yields => ?_⟩
  · exact windowOf_eq_none_of_off (columns ▸ off)
  · exact windowOf_eq_none_of_noRow (List.eq_nil_iff_forall_not_mem.2 fun r => mt (met r).1 (noRow r))
  · obtain ⟨bottom, top, span⟩ := exists_span ((met r).2 meetsRow)
    exact Option.isSome_iff_exists.2 ⟨_, (yields_iff _).2 ⟨on, bottom, top, span, rfl⟩⟩
  · have span : Span (rowsMet s e) bottom top := ⟨(met _).2 low, (met _).2 high, fun r mem => spans r ((met r).1 mem)⟩
    refine (yields_iff _).2 ⟨on, bottom, top, span, ?_⟩
    rw [Window.between, Int.max_comm, Int.min_comm]
  · obtain ⟨on, bottom, top, ⟨low, high, spans⟩, rfl⟩ := (yields_iff w).1 yields
    obtain ⟨fromLeft, toRight⟩ := on
    have low := (met bottom).1 low
    have high := (met top).1 high
    have spans : ∀ r, meets r → bottom ≤ r ∧ r ≤ top := fun r meetsRow => spans r ((met r).2 meetsRow)
    have first : ((max (column left) 0).toNat : Int) = max 0 (column left) := by omega
    have last : ((min (column right) 47).toNat : Int) = min 47 (column right) := by omega
    have residual : ((tier 2).toNat : Int) = max 0 (tier 2) := by omega
    exact ⟨first, last, low, high, spans, Nat.le_of_lt_succ high.1, (spans top high).1, residual⟩

end Sys2Proof.Machine
end

section
/-! PROOFS. The shadow list of a head (R47, R57 to R60), and the levels it allows (R91, R93). -/

namespace Sys2Proof.Machine

/-! ## The windows before merging (R47) -/

/-- At most one window per ACTIVE or COASTING entry (R47). -/
theorem length_entryWindows_le (s : State) (h : Head) (frameStart : Millis) (targets : List (Option Entry)) :
    (entryWindows s h frameStart targets).length ≤
      (targets.filter fun slot => slot.any fun e => decide (e.state ≠ .tentative)).length := by
  rw [entryWindows, List.length_filterMap_eq_countP, ← List.countP_eq_length_filter]
  refine List.countP_mono_left fun slot _ yields => ?_
  cases slot with
  | none => exact yields
  | some e =>
    by_cases tentative : e.state = .tentative
    · simp [tentative] at yields
    · simp [tentative]

/-- Every ACTIVE or COASTING entry that yields a window has it in the list (R47). -/
theorem mem_entryWindows {s : State} {h : Head} {frameStart : Millis} {targets : List (Option Entry)} {e : Entry}
    {w : Window} (mem : some e ∈ targets) (confirmed : e.state ≠ .tentative)
    (yields : windowOf s h frameStart e = some w) : w ∈ entryWindows s h frameStart targets :=
  List.mem_filterMap.2 ⟨some e, mem, by simp only [if_neg confirmed, yields]⟩

/-! ## Sorting (R57) -/

/-- Ordered by first column. -/
abbrev SortedByFirst (ws : List Window) : Prop := ws.Pairwise fun u v => u.first ≤ v.first

theorem insertWindow_perm (w : Window) (ws : List Window) : (insertWindow w ws).Perm (w :: ws) := by
  induction ws with
  | nil => exact .refl _
  | cons x xs ih =>
    unfold insertWindow
    split
    · exact .refl _
    · exact (ih.cons x).trans (.swap w x xs)

theorem insertWindow_sorted (w : Window) {ws : List Window} (sorted : SortedByFirst ws) :
    SortedByFirst (insertWindow w ws) := by
  induction ws with
  | nil => exact List.pairwise_singleton _ _
  | cons x xs ih =>
    obtain ⟨first, rest⟩ := List.pairwise_cons.1 sorted
    unfold insertWindow
    split
    next less =>
      refine List.pairwise_cons.2 ⟨fun v mem => ?_, sorted⟩
      rcases List.mem_cons.1 mem with rfl | mem
      · exact Nat.le_of_lt less
      · exact Nat.le_trans (Nat.le_of_lt less) (first v mem)
    next notLess =>
      refine List.pairwise_cons.2 ⟨fun v mem => ?_, ih rest⟩
      rcases List.mem_cons.1 ((insertWindow_perm w xs).mem_iff.1 mem) with rfl | mem
      · exact Nat.le_of_not_lt notLess
      · exact first v mem

/-- A window goes behind those of its own column that are in place. -/
theorem insertWindow_filter (w : Window) {ws : List Window} (sorted : SortedByFirst ws) (c : Nat) :
    (insertWindow w ws).filter (fun v => v.first == c) = (ws ++ [w]).filter fun v => v.first == c := by
  induction ws with
  | nil => rfl
  | cons x xs ih =>
    obtain ⟨first, rest⟩ := List.pairwise_cons.1 sorted
    unfold insertWindow
    split
    next less =>
      by_cases own : w.first = c
      · have later : (x :: xs).filter (fun v => v.first == c) = [] := by
          refine List.filter_eq_nil_iff.2 fun v mem => ?_
          rcases List.mem_cons.1 mem with rfl | mem
          · simp only [beq_iff_eq]; omega
          · have := first v mem
            simp only [beq_iff_eq]; omega
        rw [List.filter_append, later, List.filter_cons, later]
        simp [own]
      · rw [List.filter_append]
        simp [own]
    next => rw [List.cons_append, List.filter_cons, List.filter_cons, ih rest]

/-- What sorting makes of some windows: they are ordered by first column, the same ones, and those of one column keep their
order (R57). -/
structure StablySorted (ws sorted : List Window) : Prop where
  ordered : SortedByFirst sorted
  perm : sorted.Perm ws
  columns : ∀ c, sorted.filter (fun v => v.first == c) = ws.filter fun v => v.first == c

theorem StablySorted.insert {ws sorted : List Window} (stable : StablySorted ws sorted) (w : Window) :
    StablySorted (ws ++ [w]) (insertWindow w sorted) where
  ordered := insertWindow_sorted w stable.ordered
  perm := (insertWindow_perm w sorted).trans ((stable.perm.cons w).trans (List.perm_append_singleton w ws).symm)
  columns c := by rw [insertWindow_filter w stable.ordered, List.filter_append, stable.columns c, List.filter_append]

/-- Windows inserted one by one, behind some that are sorted already. -/
theorem StablySorted.foldl (ws : List Window) {seen sorted : List Window} (stable : StablySorted seen sorted) :
    StablySorted (seen ++ ws) (ws.foldl (fun sorted w => insertWindow w sorted) sorted) := by
  induction ws generalizing seen sorted with
  | nil => rwa [List.append_nil]
  | cons w ws ih =>
    rw [List.append_cons]
    exact ih (stable.insert w)

/-- Sorting is stable (R57). -/
theorem sortWindows_stable (ws : List Window) : StablySorted ws (sortWindows ws) :=
  StablySorted.foldl (seen := []) ws ⟨.nil, .refl _, fun _ => rfl⟩

/-! ## The merged window of a run (R59) -/

/-- The smallest rectangle that holds the windows of a run, at their lowest residual (R59). -/
structure Hulls (w : Window) (run : List Window) : Prop where
  bounds : ∀ v ∈ run,
    w.first ≤ v.first ∧ v.last ≤ w.last ∧ w.bottom ≤ v.bottom ∧ v.top ≤ w.top ∧ w.residual ≤ v.residual
  first : ∃ v ∈ run, v.first = w.first
  last : ∃ v ∈ run, v.last = w.last
  bottom : ∃ v ∈ run, v.bottom = w.bottom
  top : ∃ v ∈ run, v.top = w.top
  residual : ∃ v ∈ run, v.residual = w.residual

theorem Hulls.single (w : Window) : Hulls w [w] := by
  constructor <;> simp

/-- A bound attained in a run, or equal to that of one window more, is attained in the longer run. -/
theorem exists_mem_snoc {run : List Window} {next : Window} {f : Window → Nat} {a b : Nat} (old : ∃ v ∈ run, f v = a)
    (either : b = a ∨ b = f next) : ∃ v ∈ run ++ [next], f v = b := by
  rcases either with rfl | rfl
  · obtain ⟨v, mem, e⟩ := old
    exact ⟨v, List.mem_append_left _ mem, e⟩
  · exact ⟨next, by simp, rfl⟩

theorem Hulls.merge {w : Window} {run : List Window} (hulls : Hulls w run) {next : Window} (behind : w.first ≤ next.first) :
    Hulls (w.merge next) (run ++ [next]) where
  bounds v mem := by
    simp only [Window.merge]
    rcases List.mem_append.1 mem with mem | mem
    · have := hulls.bounds v mem
      omega
    · obtain rfl := List.mem_singleton.1 mem
      omega
  first := exists_mem_snoc hulls.first (.inl rfl)
  last := exists_mem_snoc hulls.last (by simp only [Window.merge]; omega)
  bottom := exists_mem_snoc hulls.bottom (by simp only [Window.merge]; omega)
  top := exists_mem_snoc hulls.top (by simp only [Window.merge]; omega)
  residual := exists_mem_snoc hulls.residual (by simp only [Window.merge]; omega)

/-- The merged window covers what the windows of its run cover (R56, R59). -/
theorem Hulls.covers {w : Window} {run : List Window} (hulls : Hulls w run) {v : Window} (mem : v ∈ run) {c r : Nat}
    (covers : v.covers c r = true) : w.covers c r = true := by
  have := hulls.bounds v mem
  simp only [Window.covers, Bool.and_eq_true, decide_eq_true_eq] at *
  omega

/-! ## The merging pass (R58) -/

/-- Each window of a run but the first stands less than `bridge` columns behind one before it (R58). -/
def Bridged (bridge : Int) (run : List Window) : Prop :=
  ∀ before v after, run = before ++ v :: after → before ≠ [] → ∃ u ∈ before, u.gap v < bridge

theorem Bridged.single (bridge : Int) (w : Window) : Bridged bridge [w] := by
  intro before v after split nonempty
  cases before with
  | nil => exact absurd rfl nonempty
  | cons x xs => simp at split

theorem Bridged.snoc {bridge : Int} {run : List Window} (bridged : Bridged bridge run) {next : Window}
    (near : ∃ u ∈ run, u.gap next < bridge) : Bridged bridge (run ++ [next]) := by
  intro before v after split nonempty
  rcases after.eq_nil_or_concat with rfl | ⟨after, w, rfl⟩
  · obtain ⟨rfl, e⟩ := List.append_inj' split rfl
    obtain rfl : next = v := by simpa using e
    exact near
  · rw [List.concat_eq_append, ← List.cons_append, ← List.append_assoc] at split
    exact bridged before v after (List.append_inj' split rfl).1 nonempty

/-- One pass over sorted windows: they fall into runs, each of which stands at least `bridge` columns before the first window
of the next, and each run gives one window of the list (R58, R59). -/
structure MergingPass (bridge : Int) (windows list : List Window) (runs : List (List Window)) : Prop where
  flatten : runs.flatten = windows
  bridged : ∀ run ∈ runs, run ≠ [] ∧ Bridged bridge run
  apart : ∀ (i : Nat) (run later : List Window) (v : Window), runs[i]? = some run → runs[i + 1]? = some (v :: later) →
    ∀ u ∈ run, bridge ≤ u.gap v
  length : list.length = runs.length
  hulls : ∀ (i : Nat) (w : Window) (run : List Window), list[i]? = some w → runs[i]? = some run → Hulls w run

/-- A run that the next window does not continue is complete, and the pass goes on with that window. -/
theorem MergingPass.cons {bridge : Int} {current next : Window} {run rest list : List Window} {runs : List (List Window)}
    (pass : MergingPass bridge (next :: rest) list runs) (hulls : Hulls current run) (nonempty : run ≠ [])
    (bridged : Bridged bridge run) (far : bridge ≤ current.gap next) :
    MergingPass bridge (run ++ next :: rest) (current :: list) (run :: runs) where
  flatten := by rw [List.flatten_cons, pass.flatten]
  bridged := List.forall_mem_cons.2 ⟨⟨nonempty, bridged⟩, pass.bridged⟩
  apart i ith later v isRun isNext u mem := by
    cases i with
    | zero =>
      obtain rfl := Option.some.inj isRun
      obtain ⟨tail, rfl⟩ := List.head?_eq_some_iff.1 (List.head?_eq_getElem?.trans isNext)
      obtain ⟨rfl, _⟩ := List.cons_eq_cons.1 pass.flatten
      obtain ⟨_, last, _⟩ := hulls.bounds u mem
      simp only [Window.gap] at *
      omega
    | succ i => exact pass.apart i ith later v isRun isNext u mem
  length := congrArg (· + 1) pass.length
  hulls i w ith isWindow isRun := by
    cases i with
    | zero =>
      obtain rfl := Option.some.inj isWindow
      obtain rfl := Option.some.inj isRun
      exact hulls
    | succ i => exact pass.hulls i w ith isWindow isRun

/-- A run behind which no window comes (R58). -/
theorem MergingPass.single {bridge : Int} {current : Window} {run : List Window} (hulls : Hulls current run)
    (nonempty : run ≠ []) (bridged : Bridged bridge run) : MergingPass bridge run [current] [run] where
  flatten := List.append_nil run
  bridged := List.forall_mem_singleton.2 ⟨nonempty, bridged⟩
  apart i _ _ _ _ isNext := by cases isNext
  length := rfl
  hulls i w ith isWindow isRun := by
    cases i with
    | zero =>
      obtain rfl := Option.some.inj isWindow
      obtain rfl := Option.some.inj isRun
      exact hulls
    | succ i => cases isRun

/-- The pass from a current window that stands for the run `run` (R58). -/
theorem mergeFrom_pass (bridge : Int) {current : Window} {run rest : List Window} (hulls : Hulls current run)
    (nonempty : run ≠ []) (bridged : Bridged bridge run) (behind : ∀ v ∈ rest, current.first ≤ v.first)
    (sorted : SortedByFirst rest) : ∃ runs, MergingPass bridge (run ++ rest) (mergeFrom bridge current rest) runs := by
  induction rest generalizing current run with
  | nil =>
    rw [List.append_nil]
    exact ⟨[run], .single hulls nonempty bridged⟩
  | cons next rest ih =>
    obtain ⟨behindNext, sorted⟩ := List.pairwise_cons.1 sorted
    obtain ⟨first, behind⟩ := List.forall_mem_cons.1 behind
    unfold mergeFrom
    split
    next near =>
      have nearOne : ∃ u ∈ run, u.gap next < bridge := by
        obtain ⟨u, mem, last⟩ := hulls.last
        exact ⟨u, mem, by rwa [Window.gap, last]⟩
      rw [List.append_cons]
      exact ih (hulls.merge first) (by simp) (bridged.snoc nearOne) behind sorted
    next far =>
      obtain ⟨runs, pass⟩ := ih (.single next) (List.cons_ne_nil _ _) (.single bridge next) behindNext sorted
      exact ⟨run :: runs, pass.cons hulls nonempty bridged (Int.not_lt.1 far)⟩

/-- The whole pass over sorted windows (R58). -/
theorem mergeWindows_pass (bridge : Int) {ws : List Window} (sorted : SortedByFirst ws) :
    ∃ runs, MergingPass bridge ws (mergeWindows bridge ws) runs := by
  cases ws with
  | nil => exact ⟨[], rfl, nofun, nofun, rfl, nofun⟩
  | cons w ws =>
    obtain ⟨behind, sorted⟩ := List.pairwise_cons.1 sorted
    exact mergeFrom_pass bridge (.single w) (List.cons_ne_nil _ _) (.single bridge w) behind sorted

/-- The shadow list of a head comes of one pass over its sorted windows (R57, R58). -/
theorem shadowList_pass (s : State) (h : Head) (frameStart : Millis) (targets : List (Option Entry)) :
    ∃ runs, MergingPass s.bridgeCols (sortWindows (entryWindows s h frameStart targets))
      (shadowList s h frameStart targets) runs :=
  mergeWindows_pass s.bridgeCols (sortWindows_stable _).ordered

/-! ## Number and form of the merged windows (R60) -/

theorem length_mergeFrom_le (bridge : Int) (current : Window) (rest : List Window) :
    (mergeFrom bridge current rest).length ≤ rest.length + 1 := by
  induction rest generalizing current with
  | nil => exact Nat.le_refl 1
  | cons next rest ih =>
    unfold mergeFrom
    split
    · exact Nat.le_succ_of_le (ih _)
    · exact Nat.succ_le_succ (ih next)

/-- Merging adds no window (R60). -/
theorem length_shadowList_le (s : State) (h : Head) (frameStart : Millis) (targets : List (Option Entry)) :
    (shadowList s h frameStart targets).length ≤ (entryWindows s h frameStart targets).length := by
  rw [← (sortWindows_stable (entryWindows s h frameStart targets)).perm.length_eq, shadowList]
  cases sortWindows (entryWindows s h frameStart targets) with
  | nil => exact Nat.le_refl 0
  | cons w ws => exact length_mergeFrom_le _ w ws

/-- The pass goes on with the first column of its current window. -/
theorem mergeFrom_eq_cons (bridge : Int) (current : Window) (rest : List Window) :
    ∃ w later, mergeFrom bridge current rest = w :: later ∧ w.first = current.first := by
  induction rest generalizing current with
  | nil => exact ⟨current, [], rfl, rfl⟩
  | cons next rest ih =>
    unfold mergeFrom
    split
    · exact ih (current.merge next)
    · exact ⟨current, _, rfl, rfl⟩

theorem mergeFrom_form {bridge : Int} (nonneg : 0 ≤ bridge) {current : Window} {rest : List Window}
    (behind : ∀ v ∈ rest, current.first ≤ v.first) (sorted : SortedByFirst rest) :
    ShadowListForm bridge (mergeFrom bridge current rest) := by
  induction rest generalizing current with
  | nil => trivial
  | cons next rest ih =>
    obtain ⟨behindNext, sorted⟩ := List.pairwise_cons.1 sorted
    obtain ⟨first, behind⟩ := List.forall_mem_cons.1 behind
    unfold mergeFrom
    split
    next => exact ih behind sorted
    next far =>
      have form := ih behindNext sorted
      obtain ⟨w, later, starts, column⟩ := mergeFrom_eq_cons bridge next rest
      rw [starts] at form ⊢
      have far : bridge ≤ current.gap w := by rw [Window.gap, column]; exact Int.not_lt.1 far
      exact ⟨column ▸ first, Int.le_trans nonneg far, far, form⟩

/-- The shadow list has the form of R60. -/
theorem shadowList_form {s : State} (nonneg : 0 ≤ s.bridgeCols) (h : Head) (frameStart : Millis)
    (targets : List (Option Entry)) : ShadowListForm s.bridgeCols (shadowList s h frameStart targets) := by
  have sorted := (sortWindows_stable (entryWindows s h frameStart targets)).ordered
  rw [shadowList]
  cases e : sortWindows (entryWindows s h frameStart targets) with
  | nil => trivial
  | cons w ws =>
    obtain ⟨behind, sorted⟩ := List.pairwise_cons.1 (e ▸ sorted)
    exact mergeFrom_form nonneg behind sorted

/-- Settles O40: form and number of the merged windows, then the runs of the pass. -/
theorem shadowListKeepsItsForm : Obligations.ShadowListKeepsItsForm := by
  unfold Obligations.ShadowListKeepsItsForm
  intro s h frameStart targets windows list gap
  have merged : list.length ≤ windows.length := length_shadowList_le s h frameStart targets
  have confirmed := length_entryWindows_le s h frameStart targets
  refine ⟨fun nonneg => shadowList_form nonneg h frameStart targets, merged, confirmed, fun sixteen => ?_, ?_⟩
  · exact sixteen ▸ Nat.le_trans merged (Nat.le_trans confirmed (List.length_filter_le _ _))
  · obtain ⟨runs, pass⟩ := shadowList_pass s h frameStart targets
    have stable := sortWindows_stable windows
    rw [← pass.flatten] at stable
    refine ⟨runs, stable.ordered, stable.columns, pass.bridged, pass.apart, pass.length, fun i w run inList inRuns => ?_⟩
    obtain ⟨bounds, first, last, bottom, top, residual⟩ := pass.hulls i w run inList inRuns
    exact ⟨bounds, first, last, bottom, top, residual⟩

/-! ## What a shadow holds dark (R58, R59, R91, R93) -/

/-- However the windows are merged, a window of the list covers what an entry's window covers, at no higher residual (R58,
R59). -/
theorem exists_shadow_covering {s : State} {h : Head} {frameStart : Millis} {targets : List (Option Entry)} {w : Window}
    (mem : w ∈ entryWindows s h frameStart targets) {c r : Nat} (covers : w.covers c r = true) :
    ∃ m ∈ shadowList s h frameStart targets, m.covers c r = true ∧ m.residual ≤ w.residual := by
  obtain ⟨runs, pass⟩ := shadowList_pass s h frameStart targets
  have inRuns : w ∈ runs.flatten := pass.flatten ▸ (sortWindows_stable _).perm.mem_iff.2 mem
  obtain ⟨run, runMem, inRun⟩ := List.mem_flatten.1 inRuns
  obtain ⟨i, inside, isRun⟩ := List.getElem_of_mem runMem
  have isWindow := List.getElem?_eq_getElem (pass.length ▸ inside)
  have hulls := pass.hulls i _ run isWindow (List.getElem?_eq_some_iff.2 ⟨inside, isRun⟩)
  obtain ⟨_, _, _, _, residual⟩ := hulls.bounds w inRun
  exact ⟨_, List.getElem_mem _, hulls.covers inRun covers, residual⟩

/-- A covering window holds its segments at its residual (R91). -/
theorem shadowedLevel_le_residual {windows : List Window} {w : Window} (mem : w ∈ windows) {c r : Nat}
    (covers : w.covers c r = true) (level : Nat) : shadowedLevel windows c r level ≤ w.residual := by
  induction windows generalizing level with
  | nil => cases mem
  | cons v windows ih =>
    rcases List.mem_cons.1 mem with rfl | mem
    · calc shadowedLevel (w :: windows) c r level
        _ = shadowedLevel windows c r (min level w.residual) := by
          rw [shadowedLevel, List.foldl_cons, if_pos covers]; rfl
        _ ≤ min level w.residual := shadowedLevel_le _ _ _ _
        _ ≤ w.residual := Nat.min_le_right _ _
    · exact ih mem _

/-- In the ENVELOPE pattern a segment under a window is composed at no more than the residual (R91, R93). -/
theorem composedLevels_le_residual {s : State} {c : Composition} (envelope : c.pattern = .envelope) (h : Head)
    {windows : List Window} {w : Window} (mem : w ∈ windows) {col r : Nat} (onCol : col < 48) (onRow : r < 4)
    (covers : w.covers col r = true) : levelAt (composedLevels s c h windows) col r ≤ w.residual := by
  rw [composedLevels, levelAt_matrixOf _ onCol onRow, segmentTarget, envelope]
  exact Nat.le_trans (ramp_le _ _ _) (shadowedLevel_le_residual mem covers _)

/-- Settles O42: some window of the merged list covers the segment at no more than the tier's residual. -/
theorem confirmedEntryIsHeldAtItsResidual : Obligations.ConfirmedEntryIsHeldAtItsResidual := by
  unfold Obligations.ConfirmedEntryIsHeldAtItsResidual
  intro s c h e w col r envelope mem confirmed yields onCol onRow covers
  obtain ⟨m, inList, mCovers, residual⟩ := exists_shadow_covering (mem_entryWindows mem confirmed yields) covers
  have inShadows : m ∈ compositionShadows s c h := by rwa [compositionShadows, envelope]
  calc levelAt (composedLevels s c h (compositionShadows s c h)) col r
    _ ≤ m.residual := composedLevels_le_residual envelope h inShadows onCol onRow mCovers
    _ ≤ w.residual := residual
    _ = s.itemNat 3 (8 + 4 * e.tier) := windowOf_residual yields

end Sys2Proof.Machine
end

section
/-! PROOFS. The end of a head stage (R61 to R63, R86, R94, R102). -/

namespace Sys2Proof.Machine

/-! ## A head takes its new levels (R94, R102) -/

/-- The new levels of a head replace its applied levels and are handed to its staged slot, while the composition goes on as
`next` (R94). -/
def stageLevels (h : Head) (levels : List Nat) (next : Composition) (s : State) : State :=
  stageFrame h levels { s.setHead h { s.head h with applied := levels } with composition := some next }

section
variable (h : Head) (levels : List Nat) (next : Composition) (s : State)

theorem stageLevels_composition : (stageLevels h levels next s).composition = some next := by
  rw [stageLevels, stageFrame_only]

/-- The new levels wait in the staged slot or are granted at once (R102, R103). -/
theorem stageLevels_waitsOrGranted :
    WaitsOrGranted h { levels, readyTime := s.timeBase } (stageLevels h levels next s) := by
  have handed := (stageFrame_slots h levels
    { s.setHead h { s.head h with applied := levels } with composition := some next }).1
  cases h <;> exact handed

/-- Of a head's state nothing differs but the two slots, and the applied levels of the head composed (R94, R102). -/
theorem stageLevels_head (k : Head) :
    (stageLevels h levels next s).head k = { s.head k with
      applied := if k = h then levels else (s.head k).applied,
      staged := ((stageLevels h levels next s).head k).staged, live := ((stageLevels h levels next s).head k).live } := by
  have slots := stageFrame_head h k levels
    { s.setHead h { s.head h with applied := levels } with composition := some next }
  cases h <;> cases k <;> exact slots

end

/-! ## The completion (R62, R63) -/

/-- The completion writes of a head's state the stored shadow list alone (R62). -/
theorem completeComposition_head (c : Composition) (s : State) (k : Head) :
    (completeComposition c s).head k = { s.head k with shadows := ((completeComposition c s).head k).shadows } := by
  cases k <;> rfl

theorem WaitsOrGranted.completeComposition {h : Head} {f : StagedFrame} {s : State} (waits : WaitsOrGranted h f s)
    (c : Composition) : WaitsOrGranted h f (completeComposition c s) := by
  cases h <;> exact waits

/-! ## The end of the stage of a head (R61, R86, R94) -/

/-- The list of the head composed is kept in the composition (R61). -/
theorem composed_eq (c : Composition) (h : Head) (windows : List Window) (rest : List Head) :
    c.composed h windows rest = { c with
      remaining := rest, shadowsLeft := if h = .left then windows else c.shadowsLeft,
      shadowsRight := if h = .right then windows else c.shadowsRight } := by
  cases h <;> rfl

section
variable (c : Composition) (h : Head) (rest : List Head) (s : State)

/-- The state in which head `h` has its new levels and the composition goes on (R61, R94). -/
def stageComposed : State :=
  stageLevels h (composedLevels s c h (compositionShadows s c h)) (c.composed h (compositionShadows s c h) rest) s

/-- The last present head completes the composition, and only it does (R62, R86). -/
theorem endHeadStage_eq :
    endHeadStage c h rest s =
      if rest = [] then completeComposition (c.composed h (compositionShadows s c h) rest) (stageComposed c h rest s)
      else stageComposed c h rest s := rfl

/-- The new levels of the head wait in its staged slot or are granted at once (R94, R102, R103). -/
theorem endHeadStage_waitsOrGranted :
    WaitsOrGranted h { levels := composedLevels s c h (compositionShadows s c h), readyTime := s.timeBase }
      (endHeadStage c h rest s) := by
  have staged := stageLevels_waitsOrGranted h (composedLevels s c h (compositionShadows s c h))
    (c.composed h (compositionShadows s c h) rest) s
  rw [endHeadStage_eq]
  split
  · exact staged.completeComposition _
  · exact staged

/-- Of a head's state nothing differs but the stored list, the two slots, and the applied levels of the head composed (R62,
R94). -/
theorem endHeadStage_head (k : Head) :
    (endHeadStage c h rest s).head k = { s.head k with
      shadows := ((endHeadStage c h rest s).head k).shadows,
      applied := if k = h then composedLevels s c h (compositionShadows s c h) else (s.head k).applied,
      staged := ((endHeadStage c h rest s).head k).staged, live := ((endHeadStage c h rest s).head k).live } := by
  have staged := stageLevels_head h (composedLevels s c h (compositionShadows s c h))
    (c.composed h (compositionShadows s c h) rest) s k
  rw [endHeadStage_eq]
  split
  · rw [completeComposition_head, stageComposed, staged]
  · rw [stageComposed, staged]

/-- While heads remain the stored lists stand (R62). -/
theorem stageComposed_shadows (k : Head) : ((stageComposed c h rest s).head k).shadows = (s.head k).shadows := by
  rw [stageComposed, stageLevels_head]

end

/-! ## HEAD_STAGE_COMPLETE (R86, log 12) -/

theorem exec_headStageComplete (s : State) : exec .headStageComplete s = .next (finishHeadStage s) := rfl

theorem finishHeadStage_idle {s : State} (idle : s.composition = none) : finishHeadStage s = s := by
  rw [finishHeadStage, idle]

theorem finishHeadStage_noHead {s : State} {c : Composition} (busy : s.composition = some c) (done : c.remaining = []) :
    finishHeadStage s = completeComposition c s := by
  simp only [finishHeadStage, busy, done]

theorem finishHeadStage_head {s : State} {c : Composition} {h : Head} {rest : List Head} (busy : s.composition = some c)
    (waiting : c.remaining = h :: rest) : finishHeadStage s = endHeadStage c h rest s := by
  simp only [finishHeadStage, busy, waiting]

/-- Settles O38: no composition, none left to compose, and the stage of a head. -/
theorem headStageStoresAndStagesItsLevels : Obligations.HeadStageStoresAndStagesItsLevels := by
  unfold Obligations.HeadStageStoresAndStagesItsLevels
  intro s stored
  refine ⟨fun idle => ?_, fun c busy done => ?_, fun c h rest busy waiting => ?_⟩
  · exact (exec_headStageComplete s).trans (congrArg _ (finishHeadStage_idle idle))
  · exact (exec_headStageComplete s).trans (congrArg _ (finishHeadStage_noHead busy done))
  · intro windows levels next staged
    have composed : c.composed h windows rest = next := composed_eq c h windows rest
    have taken : stageComposed c h rest s = staged := congrArg (stageLevels h levels · s) composed
    have ends : finishHeadStage s = endHeadStage c h rest s := finishHeadStage_head busy waiting
    have last : rest = [] → endHeadStage c h rest s = stored next staged := fun e => by
      rw [endHeadStage_eq, if_pos e, taken, ← composed]; rfl
    have more : rest ≠ [] → endHeadStage c h rest s = staged := fun e => by
      rw [endHeadStage_eq, if_neg e, taken]
    have heads := endHeadStage_head c h rest s
    have only := finishHeadStage_only s
    rw [ends] at only
    refine ⟨endHeadStage c h rest s, (exec_headStageComplete s).trans (congrArg _ ends), more, last, ?_,
      endHeadStage_waitsOrGranted c h rest s, ?_, fun e => ?_, fun e => ?_, fun k => ?_, only⟩
    · exact (congrArg HeadState.applied (heads h)).trans (if_pos rfl)
    · exact (congrArg HeadState.applied (heads h.other)).trans (if_neg (by cases h <;> decide))
    · rw [more e]
      exact ⟨stageLevels_composition h levels next s, fun k => taken ▸ stageComposed_shadows c h rest s k⟩
    · rw [last e]
      exact ⟨rfl, rfl, rfl⟩
    · rw [heads]

end Sys2Proof.Machine
end

section
/-! PROOFS. The fields of a SCENE (R68 to R70), and what its acceptance does in each mode (R68, R147, R153, R155). -/

namespace Sys2Proof.Machine

/-! ## The speed field (R69) -/

section
variable {v : Nat} {r : SceneRecord}

theorem takeSpeed_valid (h : v ≤ 1500) :
    takeSpeed v r = ({ r with speed := v, speedKnown := true, speedHeld := false }, false) := if_pos h

theorem takeSpeed_above (low : 1500 < v) (high : v < 65535) :
    takeSpeed v r = ({ r with speed := 1500, speedKnown := true, speedHeld := false }, true) := by
  rw [takeSpeed, if_neg (by omega), if_pos high]

theorem takeSpeed_held (h : 65535 ≤ v) (known : r.speedKnown = true) :
    takeSpeed v r = ({ r with speedHeld := true }, false) := by
  rw [takeSpeed, if_neg (by omega), if_neg (by omega), if_pos known]

theorem takeSpeed_unknown (h : 65535 ≤ v) (unknown : r.speedKnown = false) : takeSpeed v r = (r, false) := by
  rw [takeSpeed, if_neg (by omega), if_neg (by omega), if_neg (by simp [unknown])]

/-- The four rows of the table of R69. -/
theorem takeSpeed_cases {P : SceneRecord × Bool → Prop}
    (valid : v ≤ 1500 → P ({ r with speed := v, speedKnown := true, speedHeld := false }, false))
    (above : 1500 < v → v < 65535 → P ({ r with speed := 1500, speedKnown := true, speedHeld := false }, true))
    (held : 65535 ≤ v → r.speedKnown = true → P ({ r with speedHeld := true }, false))
    (unknown : 65535 ≤ v → r.speedKnown = false → P (r, false)) : P (takeSpeed v r) := by
  by_cases low : v ≤ 1500
  · exact takeSpeed_valid low ▸ valid low
  by_cases high : v < 65535
  · have low : 1500 < v := Nat.lt_of_not_le low
    exact takeSpeed_above low high ▸ above low high
  have none : 65535 ≤ v := Nat.le_of_not_lt high
  cases known : r.speedKnown with
  | true => exact takeSpeed_held none known ▸ held none known
  | false => exact takeSpeed_unknown none known ▸ unknown none known

theorem takeSpeed_clamped : (takeSpeed v r).2 = true ↔ 1500 < v ∧ v < 65535 := by
  refine takeSpeed_cases (P := fun p => p.2 = true ↔ 1500 < v ∧ v < 65535) (fun low => ?_) (fun low high => ?_)
    (fun none _ => ?_) fun none _ => ?_
  · exact ⟨nofun, fun ⟨above, _⟩ => absurd low (Nat.not_le.2 above)⟩
  · exact ⟨fun _ => ⟨low, high⟩, fun _ => rfl⟩
  · exact ⟨nofun, fun ⟨_, below⟩ => absurd none (Nat.not_le.2 below)⟩
  · exact ⟨nofun, fun ⟨_, below⟩ => absurd none (Nat.not_le.2 below)⟩

/-- The speed field touches nothing else. -/
theorem takeSpeed_only (v : Nat) (r : SceneRecord) :
    (takeSpeed v r).1 = { r with
      speed := (takeSpeed v r).1.speed, speedKnown := (takeSpeed v r).1.speedKnown,
      speedHeld := (takeSpeed v r).1.speedHeld } :=
  takeSpeed_cases (P := fun p => p.1 = { r with
      speed := p.1.speed, speedKnown := p.1.speedKnown, speedHeld := p.1.speedHeld })
    (fun _ => rfl) (fun _ _ => rfl) (fun _ _ => rfl) (fun _ _ => rfl)

end

/-! ## The yaw rate and chassis pitch fields (R70) -/

section
variable {v : Int} {r : SceneRecord}

theorem takeYaw_invalid (h : v = -32768) : takeYaw v r = ({ r with yawValid := false }, false) := if_pos h

theorem takeYaw_valid (h : v ≠ -32768) :
    takeYaw v r =
      ({ r with yawRate := max (-12000) (min 12000 v), yawValid := true }, decide (v < -12000) || decide (12000 < v)) := by
  rw [takeYaw, if_neg h, clampTo_eq (by decide)]

theorem takePitch_invalid (h : v = -32768) : takePitch v r = (r, false) := if_pos h

theorem takePitch_valid (h : v ≠ -32768) :
    takePitch v r = ({ r with chassisPitch := max (-320) (min 320 v) }, decide (v < -320) || decide (320 < v)) := by
  rw [takePitch, if_neg h, clampTo_eq (by decide)]

theorem takeYaw_clamped : (takeYaw v r).2 = true ↔ v ≠ -32768 ∧ (v < -12000 ∨ 12000 < v) := by
  by_cases h : v = -32768
  · rw [takeYaw_invalid h]
    exact ⟨nofun, fun valid => absurd h valid.1⟩
  · simp [takeYaw_valid h, h]

theorem takePitch_clamped : (takePitch v r).2 = true ↔ v ≠ -32768 ∧ (v < -320 ∨ 320 < v) := by
  by_cases h : v = -32768
  · rw [takePitch_invalid h]
    exact ⟨nofun, fun valid => absurd h valid.1⟩
  · simp [takePitch_valid h, h]

/-- The yaw rate field touches nothing else. -/
theorem takeYaw_only (v : Int) (r : SceneRecord) :
    (takeYaw v r).1 = { r with yawRate := (takeYaw v r).1.yawRate, yawValid := (takeYaw v r).1.yawValid } := by
  unfold takeYaw; split <;> rfl

/-- The chassis pitch field touches nothing else. -/
theorem takePitch_only (v : Int) (r : SceneRecord) :
    (takePitch v r).1 = { r with chassisPitch := (takePitch v r).1.chassisPitch } := by
  unfold takePitch; split <;> rfl

end

/-! ## The scene record (R67, R68) -/

/-- The yaw rate is read behind the speed, which it does not meet. -/
theorem takeYaw_of_takeSpeed (v : Nat) (yaw : Int) (r : SceneRecord) :
    (takeYaw yaw (takeSpeed v r).1).1.yawRate = (takeYaw yaw r).1.yawRate ∧
      (takeYaw yaw (takeSpeed v r).1).1.yawValid = (takeYaw yaw r).1.yawValid := by
  rw [takeSpeed_only]
  unfold takeYaw
  split <;> exact ⟨rfl, rfl⟩

/-- The chassis pitch is read behind both, which it does not meet. -/
theorem takePitch_of_takeYaw (v : Nat) (yaw pitch : Int) (r : SceneRecord) :
    (takePitch pitch (takeYaw yaw (takeSpeed v r).1).1).1.chassisPitch = (takePitch pitch r).1.chassisPitch := by
  rw [takeYaw_only, takeSpeed_only]
  unfold takePitch
  split <;> rfl

/-- Each field of a SCENE reaches the scene record by its own table, and all nine values of the record are named. -/
theorem takeScene_record (payload : List Byte) (now : Millis) (r : SceneRecord) :
    (takeScene payload now r).1 =
      { speed := (takeSpeed (unsignedAt payload 0) r).1.speed
        speedKnown := (takeSpeed (unsignedAt payload 0) r).1.speedKnown
        speedHeld := (takeSpeed (unsignedAt payload 0) r).1.speedHeld
        yawRate := (takeYaw (signedAt payload 2) r).1.yawRate
        yawValid := (takeYaw (signedAt payload 2) r).1.yawValid
        chassisPitch := (takePitch (signedAt payload 4) r).1.chassisPitch
        highBeam := (byteAt payload 6).getLsbD 0
        lastTime := now
        accepted := true } := by
  obtain ⟨rate, valid⟩ := takeYaw_of_takeSpeed (unsignedAt payload 0) (signedAt payload 2) r
  have pitch := takePitch_of_takeYaw (unsignedAt payload 0) (signedAt payload 2) (signedAt payload 4) r
  simp only [takeScene]
  rw [takePitch_only, pitch, takeYaw_only, rate, valid, takeSpeed_only]

/-- A SCENE is clamped where one of its three fields is. -/
theorem takeScene_clamped (payload : List Byte) (now : Millis) (r : SceneRecord) :
    (takeScene payload now r).2 = true ↔
      (1500 < unsignedAt payload 0 ∧ unsignedAt payload 0 < 65535) ∨
        (signedAt payload 2 ≠ -32768 ∧ (signedAt payload 2 < -12000 ∨ 12000 < signedAt payload 2)) ∨
          (signedAt payload 4 ≠ -32768 ∧ (signedAt payload 4 < -320 ∨ 320 < signedAt payload 4)) := by
  simp only [takeScene, Bool.or_eq_true, takeSpeed_clamped, takeYaw_clamped, takePitch_clamped, or_assoc]

/-- Settles O15: row by row of the three tables. -/
theorem sceneFieldsFollowTheirTables : Obligations.SceneFieldsFollowTheirTables := by
  unfold Obligations.SceneFieldsFollowTheirTables
  intro payload now r word v yaw pitch t
  have record : t = _ := takeScene_record payload now r
  have v_eq : unsignedAt payload 0 = v := rfl
  have yaw_eq : signedAt payload 2 = yaw := rfl
  have pitch_eq : signedAt payload 4 = pitch := rfl
  have clamped := takeScene_clamped payload now r
  rw [v_eq, yaw_eq, pitch_eq] at record clamped
  refine ⟨fun h => ?_, fun low high => ?_, fun h known => ?_, fun h unknown => ?_, fun h => ?_, fun h => ?_,
    fun h => ?_, fun h => ?_, ?_, ?_, ?_, clamped⟩
  · simp [record, takeSpeed_valid h]
  · simp [record, takeSpeed_above low high]
  · simp [record, takeSpeed_held (Nat.le_of_eq h.symm) known, known]
  · simp [record, takeSpeed_unknown (Nat.le_of_eq h.symm) unknown, unknown]
  · simp [record, takeYaw_invalid h]
  · simp [record, takeYaw_valid h]
  · simp [record, takePitch_invalid h]
  · simp [record, takePitch_valid h]
  · rw [record]
  · rw [record]
  · rw [record]

/-! ## The acceptance of a SCENE (R68, R147, R153, R155) -/

/-- A SCENE of seven bytes taken at once outside START is accepted and answered (R68). -/
theorem exec_scene_accepted {s : State} {payload : List Byte} (ready : Ready s) (length : payload.length = 7)
    (outside : s.mode ≠ .start) (tag : Byte) :
    exec (.scene tag payload) s =
      .next (acceptScene { type := 1, tag, payload, receipt := s.timeBase } s) := by
  rw [exec_request rfl, request_ready ready, serve_scene rfl, serveScene, if_neg (not_not_intro length), if_neg outside]

section
variable {s : State}

theorem afterSceneAccepted_standby (h : s.mode = .standby) : afterSceneAccepted s = s := by
  simp only [afterSceneAccepted, h]

theorem afterSceneAccepted_active (h : s.mode = .active) : afterSceneAccepted s = startSceneTimer s := by
  simp only [afterSceneAccepted, h]

theorem afterSceneAccepted_safe_unseen (h : s.mode = .safe) (unseen : s.trackSeen = false) :
    afterSceneAccepted s = { s with sceneSeen := true } := by
  simp only [afterSceneAccepted, h, recoverIfSeen, unseen, Bool.and_false, Bool.false_eq_true, if_false]

theorem afterSceneAccepted_safe_seen (h : s.mode = .safe) (seen : s.trackSeen = true) :
    afterSceneAccepted s = recover { s with sceneSeen := true } := by
  simp only [afterSceneAccepted, h, recoverIfSeen, seen, Bool.and_self, if_true]

/-- The test by which DIRECT ends for its speed (R155). -/
theorem tooFast_iff : s.tooFast = true ↔ s.item 7 12 + 20 < (s.scene.speed : Int) := decide_eq_true_iff

theorem afterSceneAccepted_direct_slow (h : s.mode = .direct) (slow : (s.scene.speed : Int) ≤ s.item 7 12 + 20) :
    afterSceneAccepted s = startSceneTimer s := by
  simp only [afterSceneAccepted, h, if_neg (mt tooFast_iff.1 (Int.not_lt.2 slow))]

theorem afterSceneAccepted_direct_fast (h : s.mode = .direct) (fast : s.item 7 12 + 20 < (s.scene.speed : Int)) :
    afterSceneAccepted s = abortDirect s := by
  simp only [afterSceneAccepted, h, if_pos (tooFast_iff.2 fast)]

/-- A DIRECT stay that ends with no request held (R155). -/
theorem abortDirect_idle (idle : s.handler = .idle) : abortDirect s = latch .directAborted 0 (teardown s) := by
  have unheld : (latch .directAborted 0 (teardown s)).handler = .idle := by
    rw [latch, latchFault_only]; exact idle
  simp only [abortDirect, answerHeld, unheld]

/-- The faults of an aborted stay are latched in the state before it, since teardown keeps the list (R154, R155). -/
theorem abortDirect_idle_eq (idle : s.handler = .idle) :
    abortDirect s =
      { teardown s with
        faults := (latchFault .directAborted 0 s.timeBase s).faults
        faultOverflow := (latchFault .directAborted 0 s.timeBase s).faultOverflow } :=
  (abortDirect_idle idle).trans (latchFault_eq .directAborted 0 s.timeBase (s := s) rfl rfl)

end

/-- Settles O16: mode by mode, from the equation of `afterSceneAccepted` in that mode. -/
theorem acceptedSceneActsByMode : Obligations.AcceptedSceneActsByMode := by
  unfold Obligations.AcceptedSceneActsByMode
  intro tag payload s ready length r answered sceneDeadline trackDeadline
  let stored : State := { s with scene := r.1 }
  have accepted : s.mode ≠ .start → ∀ u, afterSceneAccepted stored = u →
      answered (answer { type := 1, tag, payload, receipt := s.timeBase } (Status.ofClamp r.2) [] u) := by
    rintro outside u rfl
    exact ⟨exec_scene_accepted ready length outside tag, answer_replied _ _ _ _ _ _ _⟩
  refine ⟨fun standby => ?_, fun active => ?_, fun safe unseen => ?_, fun safe seen => ?_, fun direct slow => ?_,
    fun direct fast => ?_⟩
  · exact ⟨_, accepted (by simp [standby]) _ (afterSceneAccepted_standby standby), rfl⟩
  · exact ⟨_, accepted (by simp [active]) _ (afterSceneAccepted_active active), rfl⟩
  · exact ⟨_, accepted (by simp [safe]) _ (afterSceneAccepted_safe_unseen safe unseen), rfl⟩
  · exact ⟨_, accepted (by simp [safe]) _ (afterSceneAccepted_safe_seen safe seen), rfl⟩
  · exact ⟨_, accepted (by simp [direct]) _ (afterSceneAccepted_direct_slow direct slow), rfl⟩
  · have effect := (afterSceneAccepted_direct_fast (s := stored) direct fast).trans (abortDirect_idle_eq ready.1)
    obtain ⟨faults, overflow⟩ :=
      latchFault_congr .directAborted 0 s.timeBase (s := s) (t := stored) rfl rfl
    refine ⟨_, accepted (by simp [direct]) _ effect, ?_, rfl, rfl, faults, overflow, rfl⟩
    exact ⟨rfl, rfl, rfl, rfl, rfl, rfl, rfl, rfl, rfl, rfl, rfl, rfl, rfl, rfl, rfl, rfl, rfl, rfl⟩

end Sys2Proof.Machine
end

section
/-! PROOFS. The Beam Shaper stage: bend, pitch, dark rows and profile (R74 to R81). -/

namespace Sys2Proof.Machine

/-! ## A truncated share -/

/-- A share of at most the whole, truncated toward zero, lies between zero and the whole. -/
theorem truncDiv_share_between {k : Int} (low : 0 ≤ k) (high : k ≤ 256) (x : Int) :
    min 0 x ≤ truncDiv (x * k) 256 ∧ truncDiv (x * k) 256 ≤ max 0 x := by
  have share : ∀ y : Int, 0 ≤ y → 0 ≤ (y * k).tdiv 256 ∧ (y * k).tdiv 256 ≤ y := fun y hy => by
    have product : 0 ≤ y * k := Int.mul_nonneg hy low
    have whole : y * k ≤ y * 256 := Int.mul_le_mul_of_nonneg_left high hy
    rw [Int.tdiv_eq_ediv_of_nonneg product]
    omega
  unfold truncDiv
  rcases Int.le_total 0 x with right | left
  · obtain ⟨positive, bounded⟩ := share x right
    omega
  · obtain ⟨positive, bounded⟩ := share (-x) (by omega)
    rw [Int.neg_mul, Int.neg_tdiv] at positive bounded
    omega

/-- A share of a value within a bound is within it. -/
theorem truncDiv_share_within {bound k x : Int} (low : 0 ≤ k) (high : k ≤ 256) (within : Within bound x) :
    Within bound (truncDiv (x * k) 256) := by
  obtain ⟨lower, upper⟩ := truncDiv_share_between low high x
  obtain ⟨above, below⟩ := within
  exact ⟨by omega, by omega⟩

/-! ## Curve bend (R75 to R77) -/

/-- The bend target of R75. -/
theorem bendRaw_eq (s : State) (n : SceneSnapshot) :
    bendRaw s n =
      if n.speedKnown = false ∨ n.yawValid = false ∨ n.speed < 50 then 0
      else Int.tdiv (576 * n.yawRate * clampTo (s.item 7 1) (s.item 7 2) (Int.tdiv ((n.speed : Int) * s.item 7 0) 3600))
        (1000 * (n.speed : Int)) := by
  simp only [bendRaw, truncDiv, Bool.or_eq_true, Bool.not_eq_true', decide_eq_true_eq, or_assoc]

section
variable {s : State}

/-- The slew of R76, with its two clamps as bounds. -/
theorem slewedBend_eq (bound : 0 ≤ s.item 7 3) (slew : 0 ≤ s.item 7 4) (n : SceneSnapshot) (prev : Int) :
    slewedBend s n prev =
      prev + max (-s.item 7 4) (min (s.item 7 4) (max (-s.item 7 3) (min (s.item 7 3) (bendRaw s n)) - prev)) := by
  simp only [slewedBend, clampTo_eq (show -s.item 7 4 ≤ s.item 7 4 by omega),
    clampTo_eq (show -s.item 7 3 ≤ s.item 7 3 by omega)]

/-- The slewed bend stays within bend_max, since it moves from a bend within it toward a target within it (R76). -/
theorem slewedBend_within (bound : 0 ≤ s.item 7 3) (slew : 0 ≤ s.item 7 4) (n : SceneSnapshot) {prev : Int}
    (within : Within (s.item 7 3) prev) : Within (s.item 7 3) (slewedBend s n prev) := by
  obtain ⟨above, below⟩ := within
  rw [slewedBend_eq bound slew]
  exact ⟨by omega, by omega⟩

/-- The bend moves by at most bend_slew (R76). -/
theorem slewedBend_step (bound : 0 ≤ s.item 7 3) (slew : 0 ≤ s.item 7 4) (n : SceneSnapshot) (prev : Int) :
    Within (s.item 7 4) (slewedBend s n prev - prev) := by
  rw [slewedBend_eq bound slew]
  exact ⟨by omega, by omega⟩

/-- A bend of 0 has a share of 0. -/
theorem outerShare_zero (s : State) : outerShare s 0 = 0 := by
  simp only [outerShare, truncDiv, Int.zero_mul, Int.zero_tdiv]

/-- In a curve to the right, the right head is the inside head (R77). -/
theorem bendShare_of_nonneg {bend : Int} (h : 0 ≤ bend) :
    bendShare s bend .right = bend ∧ bendShare s bend .left = outerShare s bend := by
  refine ⟨if_neg (by omega), ?_⟩
  rcases Int.lt_or_eq_of_le h with right | rfl
  · exact if_pos right
  · exact (outerShare_zero s).symm

/-- In a curve to the left, the left head is the inside head (R77). -/
theorem bendShare_of_nonpos {bend : Int} (h : bend ≤ 0) :
    bendShare s bend .left = bend ∧ bendShare s bend .right = outerShare s bend := by
  refine ⟨if_neg (by omega), ?_⟩
  rcases Int.lt_or_eq_of_le h with left | rfl
  · exact if_pos left
  · exact (outerShare_zero s).symm

/-- The bend of either head stays within a bound of the slewed bend (R77). -/
theorem bendShare_within {bound bend : Int} (low : 0 ≤ s.item 7 5) (high : s.item 7 5 ≤ 256) (within : Within bound bend)
    (k : Head) : Within bound (bendShare s bend k) := by
  have outer : Within bound (outerShare s bend) := truncDiv_share_within low high within
  rcases Int.le_total 0 bend with right | left
  · obtain ⟨inside, outside⟩ := bendShare_of_nonneg (s := s) right
    cases k
    · exact outside ▸ outer
    · exact inside.symm ▸ within
  · obtain ⟨inside, outside⟩ := bendShare_of_nonpos (s := s) left
    cases k
    · exact inside.symm ▸ within
    · exact outside ▸ outer

/-! ## Pitch filter and pitch ceiling (R78, R79) -/

/-- The filtered pitch moves toward the chassis pitch, never past it (R78). -/
theorem filterPitch_between (low : 0 ≤ s.item 7 6) (high : s.item 7 6 ≤ 256) (p pf : Int) :
    min pf p ≤ filterPitch s p (some pf) ∧ filterPitch s p (some pf) ≤ max pf p := by
  obtain ⟨lower, upper⟩ := truncDiv_share_between low high (p - pf)
  simp only [filterPitch]
  omega

/-- The filtered pitch stays within a bound of the chassis pitch and of its past (R78). -/
theorem filterPitch_within {bound p : Int} (low : 0 ≤ s.item 7 6) (high : s.item 7 6 ≤ 256) (within : Within bound p)
    {old : Option Int} (past : ∀ pf, old = some pf → Within bound pf) : Within bound (filterPitch s p old) := by
  cases old with
  | none => exact within
  | some pf =>
    obtain ⟨lower, upper⟩ := filterPitch_between low high p pf
    obtain ⟨above, below⟩ := within
    obtain ⟨pastAbove, pastBelow⟩ := past pf rfl
    exact ⟨by omega, by omega⟩

theorem mem_rowsAtCeiling (pf : Int) (r : Nat) :
    r ∈ rowsAtCeiling s pf ↔ r < 4 ∧ s.item 7 7 ≤ 32 * (r : Int) - 16 + pf := by
  rw [rowsAtCeiling, List.mem_filter, List.mem_range]
  exact and_congr_right fun _ => decide_eq_true_iff

end

/-! ## The stage (R74) -/

/-- What table 7 holds for the Beam Shaper: bend_max and bend_slew not negative, the shares at most the whole (R73, R175). -/
theorem shaping_in_range {s : State} (h : CalibrationLaw s) :
    0 ≤ s.item 7 3 ∧ 0 ≤ s.item 7 4 ∧ (0 ≤ s.item 7 5 ∧ s.item 7 5 ≤ 256) ∧ (0 ≤ s.item 7 6 ∧ s.item 7 6 ≤ 256) := by
  obtain ⟨bendMax, _⟩ : 0 ≤ s.item 7 3 ∧ s.item 7 3 ≤ 384 := item_in_range h (item := ⟨0, 384, 256⟩) (by decide) rfl
  obtain ⟨slew, _⟩ : 1 ≤ s.item 7 4 ∧ s.item 7 4 ≤ 64 := item_in_range h (item := ⟨1, 64, 12⟩) (by decide) rfl
  obtain ⟨outer, outer'⟩ : 128 ≤ s.item 7 5 ∧ s.item 7 5 ≤ 256 :=
    item_in_range h (item := ⟨128, 256, 160⟩) (by decide) rfl
  obtain ⟨filter, filter'⟩ : 1 ≤ s.item 7 6 ∧ s.item 7 6 ≤ 256 := item_in_range h (item := ⟨1, 256, 64⟩) (by decide) rfl
  omega

/-- Settles O43: bend, heads, pitch and rows, each from its own lemma. -/
theorem beamShaperStageKeepsItsBounds : Obligations.BeamShaperStageKeepsItsBounds := by
  unfold Obligations.BeamShaperStageKeepsItsBounds
  intro s n calibration within new results v preview target
  obtain ⟨bound, slew, _, filterLow, filterHigh⟩ := shaping_in_range calibration
  have target_eq : bendRaw s n = target := bendRaw_eq s n
  refine ⟨⟨?_, slewedBend_within bound slew n within, slewedBend_step bound slew n _⟩, fun right => ?_, fun left => ?_,
    fun first => ?_, fun pf past => ⟨filterPitch s n.chassisPitch (some pf), ?_, rfl, ?_⟩, rfl, rfl, rfl, ?_⟩
  · exact target_eq ▸ slewedBend_eq bound slew n s.shaper.prev
  · exact bendShare_of_nonneg right
  · exact bendShare_of_nonpos left
  · exact congrArg (fun old => some (filterPitch s n.chassisPitch old)) first
  · exact congrArg (fun old => some (filterPitch s n.chassisPitch old)) past
  · exact filterPitch_between filterLow filterHigh n.chassisPitch pf
  · rintro pf filtered r
    obtain rfl : filterPitch s n.chassisPitch s.shaper.pf = pf := Option.some.inj filtered
    exact mem_rowsAtCeiling _ r

/-! ## Profile selection (R80, R81) -/

section
variable {s : State} {n : SceneSnapshot}

theorem firstProfile_unknown (unknown : n.speedKnown = false) : firstProfile s n = .country := by
  simp only [firstProfile, unknown, Bool.not_false, if_true]

/-- The first selection at a known speed is by the two thresholds alone (R80). -/
theorem firstProfile_known (known : n.speedKnown = true) :
    firstProfile s n =
      if (n.speed : Int) < s.item 7 9 then .town else if (n.speed : Int) < s.item 7 10 then .country else .motorway := by
  simp only [firstProfile, known, Bool.not_true, Bool.false_eq_true, if_false]

theorem nextProfile_unknown (unknown : n.speedKnown = false) (p : Profile) : nextProfile s n p = p := by
  simp only [nextProfile, unknown, Bool.not_false, if_true]

/-! The rows of the table of R81 at a known speed. -/

theorem nextProfile_town (known : n.speedKnown = true) :
    nextProfile s n .town =
      if s.item 7 10 + s.item 7 11 ≤ (n.speed : Int) then .motorway
      else if s.item 7 9 + s.item 7 11 ≤ (n.speed : Int) then .country else .town := by
  simp only [nextProfile, known, Bool.not_true, Bool.false_eq_true, if_false]

theorem nextProfile_country (known : n.speedKnown = true) :
    nextProfile s n .country =
      if s.item 7 10 + s.item 7 11 ≤ (n.speed : Int) then .motorway
      else if (n.speed : Int) < s.item 7 9 - s.item 7 11 then .town else .country := by
  simp only [nextProfile, known, Bool.not_true, Bool.false_eq_true, if_false]

theorem nextProfile_motorway (known : n.speedKnown = true) :
    nextProfile s n .motorway =
      if (n.speed : Int) < s.item 7 9 - s.item 7 11 then .town
      else if (n.speed : Int) < s.item 7 10 - s.item 7 11 then .country else .motorway := by
  simp only [nextProfile, known, Bool.not_true, Bool.false_eq_true, if_false]

end

/-- Settles O44: the first selection by its thresholds, then the table of R81 row by row. The consistency of the thresholds
(condition 9 of R146) orders the bounds of each row. -/
theorem profileSelectionFollowsTheTable : Obligations.ProfileSelectionFollowsTheTable := by
  unfold Obligations.ProfileSelectionFollowsTheTable
  intro s n v t1 t2 h new
  have selected : ∀ old, s.shaper.profile = old → new = selectProfile s n old := fun _ e =>
    congrArg (selectProfile s n) e
  refine ⟨rfl, fun first => ?_, fun p later unknown => ?_, fun known consistent hysteresis => ⟨?_, ?_, ?_⟩⟩
  · rw [selected none first, selectProfile]
    refine ⟨firstProfile_unknown, fun known low => ?_, fun known mid high => ?_, fun known mid high => ?_⟩
    all_goals rw [firstProfile_known known]
    · exact if_pos low
    · rw [if_neg (Int.not_lt.2 mid), if_pos high]
    · rw [if_neg (Int.not_lt.2 mid), if_neg (Int.not_lt.2 high)]
  · exact (selected (some p) later).trans (nextProfile_unknown unknown p)
  · intro town
    rw [selected _ town, selectProfile, nextProfile_town known]
    refine ⟨fun fast => if_pos fast, fun mid slow => ?_, fun slow => ?_⟩
    · rw [if_neg (Int.not_le.2 slow), if_pos mid]
    · rw [if_neg (by omega), if_neg (Int.not_le.2 slow)]
  · intro country
    rw [selected _ country, selectProfile, nextProfile_country known]
    refine ⟨fun fast => if_pos fast, fun slow => ?_, fun mid slow => ?_⟩
    · rw [if_neg (by omega), if_pos slow]
    · rw [if_neg (Int.not_le.2 slow), if_neg (Int.not_lt.2 mid)]
  · intro motorway
    rw [selected _ motorway, selectProfile, nextProfile_motorway known]
    refine ⟨fun slow => if_pos slow, fun mid slow => ?_, fun fast => ?_⟩
    · rw [if_neg (Int.not_lt.2 mid), if_pos slow]
    · rw [if_neg (by omega), if_neg (Int.not_lt.2 fast)]

end Sys2Proof.Machine
end

section
/-! PROOFS. What a predicate must withstand for every step to keep it. -/

namespace Sys2Proof.Machine

/-- Nothing but the time, the queue of waiting commands, the framer, the inbound queue and the reply differs. -/
abbrev OnlyLink (s t : State) : Prop :=
  t = { s with
    micros := t.micros, ties := t.ties, pending := t.pending, framer := t.framer, rxBytes := t.rxBytes,
    rxSilentSince := t.rxSilentSince, inbound := t.inbound, replyBuffer := t.replyBuffer, handler := t.handler }

/-- The parts from which every step is made, each of which keeps a predicate that does not speak of the vehicle link. -/
structure KeptByParts (P : State → Prop) : Prop where
  link : ∀ {s t}, OnlyLink s t → P s → P t
  count : ∀ {s} (id : CounterId), P s → P (countEvent id s)
  reset : ∀ strap pending ties, P { State.reset with trafficSideHigh := strap, pending, ties }
  loadImage : ∀ {s} (image : List Byte), s.autoload.isSome = true → P s → P (loadImage image s)
  failAutoload : ∀ {s}, s.autoload.isSome = true → P s → P (failAutoload s)
  serve : ∀ {s} (f : LinkFrame), P s → P (serve f s)
  sceneTimerExpired : ∀ {s}, P s → P (sceneTimerExpired s)
  trackTimerExpired : ∀ {s}, P s → P (trackTimerExpired s)
  frameClock : ∀ {s}, P s → P (frameClock s)
  finishHeadStage : ∀ {s}, P s → P (finishHeadStage s)
  finishBlock : ∀ {s}, P s → P (finishBlock s)
  failExchange : ∀ {s}, P s → P (failExchange s)
  receiveEchoInput : ∀ {s} (port : Head) (input : LineInput) (stopLow : Bool),
    P s → P (receiveEchoInput port input stopLow s)

namespace KeptByParts

variable {P : State → Prop} (kept : KeptByParts P) {s : State}
include kept

theorem finishAutoload (h : P s) (image : List Byte) : P (finishAutoload image s) := by
  unfold Machine.finishAutoload
  split
  · exact h
  · rename_i read loading
    have inFlight : s.autoload.isSome = true := by rw [loading]; rfl
    split
    · exact kept.failAutoload inFlight h
    · split
      · exact kept.loadImage image inFlight h
      · exact h

theorem missAcknowledge (h : P s) : P (missAcknowledge s) := by
  unfold Machine.missAcknowledge
  split
  · exact h
  · rename_i read loading
    exact kept.failAutoload (by rw [loading]; rfl) h

theorem takeNext (h : P s) : P (takeNext s) := by
  unfold Machine.takeNext
  split
  · exact h
  · exact h
  · split
    · exact h
    · rename_i f rest _
      exact kept.serve f (kept.link (t := { s with inbound := rest }) rfl h)

theorem offerFrame (h : P s) (f : LinkFrame) : P (offerFrame f s) := by
  unfold Machine.offerFrame
  split
  · exact kept.takeNext (kept.link (t := { s with inbound := s.inbound ++ [f] }) rfl h)
  · exact kept.count _ h

theorem finishReply (h : P s) : P (finishReply s) :=
  kept.takeNext (kept.link (t := { s with replyBuffer := none, handler := .idle }) rfl h)

theorem abandonFrame (h : P s) : P (abandonFrame s) :=
  kept.count _ (kept.link (t := { s with framer := .hunt, rxBytes := [] }) rfl h)

theorem keepByte (h : P s) (b : Byte) (next : FramerState) : P (keepByte b next s) := kept.link rfl h

theorem completeFrame (h : P s) (b : Byte) : P (completeFrame b s) := by
  have done : P { s with framer := .hunt, rxBytes := [] } := kept.link rfl h
  unfold Machine.completeFrame
  dsimp only
  split
  · exact kept.offerFrame done _
  · exact kept.count _ done

theorem goodByte (h : P s) (b : Byte) : P (goodByte b s) := by
  unfold Machine.goodByte
  split
  · exact kept.link rfl h
  · split <;> exact kept.link rfl h
  · unfold headerByte
    split
    · exact kept.keepByte h _ _
    · split
      · exact kept.abandonFrame h
      · exact kept.keepByte h _ _
  · exact kept.keepByte h _ _
  · unfold crcByte
    split
    · exact kept.keepByte h _ _
    · exact kept.completeFrame h b

theorem receiveLinkByte (h : P s) (b : Byte) (framingError : Bool) : P (receiveLinkByte b framingError s) := by
  have silent : P { s with rxSilentSince := some s.micros } := kept.link rfl h
  unfold Machine.receiveLinkByte faultyByte
  dsimp only
  split
  · split
    · exact kept.abandonFrame silent
    · exact kept.link rfl h
  · exact kept.goodByte silent b

theorem receiveLinkInput (h : P s) (input : LineInput) : P (receiveLinkInput input s) := by
  cases input
  · exact kept.link rfl h
  · exact kept.receiveLinkByte h _ false

/-- What happens at a moment; the autoload ends by time only while it is in flight (R177). -/
theorem happen (h : P s) {c : Instr} {t : Nat} (moment : momentOf c s = some t) : P (happen c (passTo t s)) := by
  have passed : P (passTo t s) := kept.link rfl h
  unfold Machine.happen
  split
  · obtain ⟨_, cause, _⟩ := momentOf_eq_some.1 moment
    obtain ⟨read, loading, _⟩ := Option.map_eq_some_iff.1 cause
    exact kept.failAutoload (Option.isSome_of_eq_some loading) passed
  · exact kept.sceneTimerExpired passed
  · exact kept.trackTimerExpired passed
  · exact kept.frameClock passed
  · exact kept.abandonFrame passed
  · exact kept.finishReply passed
  · exact kept.finishBlock passed
  · exact kept.failExchange passed
  · exact kept.failExchange passed
  · exact kept.failExchange passed
  · exact passed

theorem runTo (h : P s) (n : Nat) (c : Instr) : P (runTo n c s) :=
  runTo_induction (P := P) (fun _ hs => kept.link rfl hs) (fun _ _ _ hs moment _ => kept.happen hs moment) n c s h

theorem after (h : P s) (c : Instr) : P (after c s) := by
  by_cases own : c ∈ ownCommands
  · rw [exec_next_iff.1 (exec_own own s)]
    exact kept.runTo h _ _
  · cases c
    case reset strap => exact kept.reset strap _ _
    case autoloadReadComplete image => exact kept.finishAutoload h image
    case eepromNoAcknowledge => exact kept.missAcknowledge h
    case frameReceived b => exact kept.receiveLinkByte h b false
    case frameAbandoned b framingError => exact kept.receiveLinkByte h b framingError
    case linkByteReceived input => exact kept.receiveLinkInput h input
    case headStageComplete => exact kept.finishHeadStage h
    case echoReceived port b => exact kept.receiveEchoInput port (.byte b) false h
    case echoByteReceived port input stopLow => exact kept.receiveEchoInput port input stopLow h
    all_goals first | exact kept.offerFrame h _ | exact absurd (by decide) own

/-- A predicate that every part keeps is kept by every step. -/
theorem step (h : P s) {t : State} (e : step s = .next t) : P t := by
  have key : ∀ t, Machine.step s = .next t → P t :=
    step_cases (P := fun r => ∀ t, r = .next t → P t)
      (fun c pending ties t ht => by
        rw [← exec_next_iff.1 ht]
        exact kept.after (kept.link (t := { s with pending, ties }) rfl h) c)
      (fun t ht => by cases ht; exact kept.link rfl h)
  exact key t e

end KeptByParts

end Sys2Proof.Machine
end

section
/-! PROOFS. The scene record and the Beam Shaper stay within their ranges (R67, R72, R76, R78). -/

namespace Sys2Proof.Machine

/-! ## The scene record (R67) -/

/-- The fields of a scene record lie in their ranges (R67). -/
abbrev SceneRecord.inRange (r : SceneRecord) : Prop :=
  r.speed ≤ 1500 ∧ -12000 ≤ r.yawRate ∧ r.yawRate ≤ 12000 ∧ -320 ≤ r.chassisPitch ∧ r.chassisPitch ≤ 320 ∧
    (r.speedHeld = true → r.speedKnown = true)

theorem takeSpeed_inRange {r : SceneRecord} (h : r.inRange) (v : Nat) : (takeSpeed v r).1.inRange := by
  obtain ⟨speed, low, high, down, up, held⟩ := h
  exact takeSpeed_cases (P := fun p => p.1.inRange)
    (fun valid => ⟨valid, low, high, down, up, nofun⟩)
    (fun _ _ => ⟨Nat.le_refl _, low, high, down, up, nofun⟩)
    (fun _ known => ⟨speed, low, high, down, up, fun _ => known⟩)
    (fun _ _ => ⟨speed, low, high, down, up, held⟩)

theorem takeYaw_inRange {r : SceneRecord} (h : r.inRange) (v : Int) : (takeYaw v r).1.inRange := by
  by_cases e : v = -32768
  · rw [takeYaw_invalid e]; exact h
  · obtain ⟨speed, _, _, pitch⟩ := h
    rw [takeYaw_valid e]
    exact ⟨speed, by simp only; omega, by simp only; omega, pitch⟩

theorem takePitch_inRange {r : SceneRecord} (h : r.inRange) (v : Int) : (takePitch v r).1.inRange := by
  by_cases e : v = -32768
  · rw [takePitch_invalid e]; exact h
  · obtain ⟨speed, low, high, _, _, held⟩ := h
    rw [takePitch_valid e]
    exact ⟨speed, low, high, by simp only; omega, by simp only; omega, held⟩

/-- A SCENE leaves the record in its ranges, whatever its payload (R68 to R70). -/
theorem takeScene_inRange {r : SceneRecord} (h : r.inRange) (payload : List Byte) (now : Millis) :
    (takeScene payload now r).1.inRange :=
  takePitch_inRange (takeYaw_inRange (takeSpeed_inRange h _) _) _

/-! ## The Beam Shaper (R72) -/

/-- The bends of the Beam Shaper lie within a bound, and its filtered pitch within 320 au (R72, R76, R78). -/
abbrev Shaper.inRange (bound : Int) (shaper : Shaper) : Prop :=
  Within bound shaper.prev ∧ Within bound shaper.bendLeft ∧ Within bound shaper.bendRight ∧
    ∀ pf, shaper.pf = some pf → Within 320 pf

/-- bend_max (R73). -/
def bendMax (tables : List (List Int)) : Int := (tables.getD 7 []).getD 3 0

theorem item_bendMax (s : State) : s.item 7 3 = bendMax s.tables := rfl

theorem bendMax_nonneg {tables : List (List Int)} (h : TablesAdmitted tables) : 0 ≤ bendMax tables :=
  (admitted_getD (h.2 7 (by decide)) (i := 3) (item := ⟨0, 384, 256⟩) rfl).1

/-- The shaper at rest is within every bound. -/
theorem Shaper.rest_inRange {bound : Int} (h : 0 ≤ bound) : Shaper.rest.inRange bound := by
  have zero : Within bound 0 := ⟨by omega, h⟩
  exact ⟨zero, zero, zero, nofun⟩

/-- The Beam Shaper stage keeps its state in range (R74). -/
theorem shapedState_inRange {s : State} (calibration : CalibrationLaw s) (h : s.shaper.inRange (s.item 7 3))
    {n : SceneSnapshot} (pitch : Within 320 n.chassisPitch) : (shapedState s n).inRange (s.item 7 3) := by
  obtain ⟨prev, _, _, past⟩ := h
  obtain ⟨bound, slew, ⟨outerLow, outerHigh⟩, filterLow, filterHigh⟩ := shaping_in_range calibration
  have bend : Within (s.item 7 3) (slewedBend s n s.shaper.prev) := slewedBend_within bound slew n prev
  refine ⟨bend, bendShare_within outerLow outerHigh bend .left, bendShare_within outerLow outerHigh bend .right, ?_⟩
  rintro pf filtered
  obtain rfl : filterPitch s n.chassisPitch s.shaper.pf = pf := Option.some.inj filtered
  exact filterPitch_within filterLow filterHigh pitch past

/-! ## The laws together -/

/-- What `SceneLaw` and `ShaperLaw` say, with what keeps them: the tables in range, and the Beam Shaper at rest wherever a
table can be written, so that a new bend_max finds no bend. -/
structure ShapingHeld (tables : List (List Int)) (autoload : Option AutoloadRead) (mode : Mode) (scene : SceneRecord)
    (shaper : Shaper) : Prop where
  admitted : TablesAdmitted tables
  loading : autoload.isSome = true ↔ mode = .start
  atRest : mode = .start ∨ mode = .standby → shaper = Shaper.rest
  record : scene.inRange
  bends : shaper.inRange (bendMax tables)

/-- The scene record and the Beam Shaper of a state are in range, and held there. -/
abbrev Shaped (s : State) : Prop := ShapingHeld s.tables s.autoload s.mode s.scene s.shaper

theorem shaped_of_laws {s : State} (calibration : CalibrationLaw s) (rest : RestLaw s) (scene : SceneLaw s)
    (shaper : ShaperLaw s) : Shaped s := by
  obtain ⟨autoload, lamps⟩ := rest
  refine ⟨calibration, by rw [autoload, decide_eq_true_iff], fun atRest => ?_, scene, shaper⟩
  obtain ⟨_, _, _, _, _, _, _, _, _, resting, _⟩ := lamps atRest
  exact resting

theorem shaped_reset (strap : Bool) (pending : List Instr) (ties : Nat) :
    Shaped { State.reset with trafficSideHigh := strap, pending, ties } :=
  shaped_of_laws (s := State.reset) tablesAdmitted_default restLaw_reset (by decide) shaperLaw_reset

section
variable {tables : List (List Int)} {autoload : Option AutoloadRead} {mode : Mode} {scene : SceneRecord} {shaper : Shaper}

/-- A change to a mode in which frames are composed or sent (R148, R149, R152, R153). -/
theorem ShapingHeld.enter (h : ShapingHeld tables autoload mode scene shaper) (outside : mode ≠ .start) {next : Mode}
    (notStart : next ≠ .start) (notStandby : next ≠ .standby) : ShapingHeld tables autoload next scene shaper where
  admitted := h.admitted
  loading := ⟨fun inFlight => absurd (h.loading.1 inFlight) outside, fun start => absurd start notStart⟩
  atRest := fun rests => rests.elim (absurd · notStart) (absurd · notStandby)
  record := h.record
  bends := h.bends

/-- The Beam Shaper comes to rest in STANDBY (R154). -/
theorem ShapingHeld.teardown (h : ShapingHeld tables autoload mode scene shaper) (outside : mode ≠ .start) :
    ShapingHeld tables autoload .standby scene Shaper.rest where
  admitted := h.admitted
  loading := ⟨fun inFlight => absurd (h.loading.1 inFlight) outside, nofun⟩
  atRest := fun _ => rfl
  record := h.record
  bends := Shaper.rest_inRange (bendMax_nonneg h.admitted)

/-- The tables change under a Beam Shaper at rest (R177 to R179). -/
theorem ShapingHeld.retable (h : ShapingHeld tables autoload mode scene shaper) (rests : mode = .start ∨ mode = .standby)
    {next : List (List Int)} (admitted : TablesAdmitted next) : ShapingHeld next autoload mode scene shaper where
  admitted := admitted
  loading := h.loading
  atRest := h.atRest
  record := h.record
  bends := h.atRest rests ▸ Shaper.rest_inRange (bendMax_nonneg admitted)

/-- The end of the autoload: STANDBY without a teardown, the Beam Shaper being at rest in START (R142). -/
theorem ShapingHeld.endAutoload (h : ShapingHeld tables autoload mode scene shaper) (start : mode = .start) :
    ShapingHeld tables none .standby scene shaper where
  admitted := h.admitted
  loading := ⟨nofun, nofun⟩
  atRest := fun _ => h.atRest (.inl start)
  record := h.record
  bends := h.bends

/-- A new scene record (R68). -/
theorem ShapingHeld.rescene (h : ShapingHeld tables autoload mode scene shaper) {next : SceneRecord} (hn : next.inRange) :
    ShapingHeld tables autoload mode next shaper :=
  ⟨h.admitted, h.loading, h.atRest, hn, h.bends⟩

/-- A new shaper state, in a mode in which frames are composed (R74). -/
theorem ShapingHeld.reshape (h : ShapingHeld tables autoload mode scene shaper)
    (composing : mode.composes = true) {next : Shaper} (hn : next.inRange (bendMax tables)) :
    ShapingHeld tables autoload mode scene next := by
  have moving : ¬ (mode = .start ∨ mode = .standby) := by
    rintro (rfl | rfl) <;> cases composing
  exact ⟨h.admitted, h.loading, (absurd · moving), h.record, hn⟩

end

section
variable {s t : State}

theorem Shaped.link (h : Shaped s) (only : OnlyLink s t) : Shaped t := by
  unfold OnlyLink at only; rw [only]; exact h

theorem Shaped.lamps (h : Shaped s) (only : OnlyLamps s t) : Shaped t := by
  unfold OnlyLamps at only; rw [only]; exact h

theorem Shaped.table (h : Shaped s) (only : OnlyTable s t) : Shaped t := by
  unfold OnlyTable at only; rw [only]; exact h

theorem Shaped.latch (h : Shaped s) (kind : FaultKind) (subject : Nat) : Shaped (latch kind subject s) :=
  h.lamps (latchFault_only kind subject s.timeBase s).lamps

/-! ## Composer and modes -/

theorem Shaped.beginComposition (h : Shaped s) (composing : s.mode.composes = true) :
    Shaped (beginComposition s) := by
  obtain ⟨_, _, _, down, up, _⟩ := h.record
  exact h.reshape composing
    (shapedState_inRange (s := ageTable s.timeBase s) h.admitted h.bends (n := s.scene.snapshot) ⟨down, up⟩)

/-- A frame start runs the Beam Shaper stage in ACTIVE and SAFE alone (R84). -/
theorem Shaped.frameClock (h : Shaped s) : Shaped (frameClock s) := by
  have moved : Shaped { s with framePhase := s.framePhase.map (· + millis s.framePeriod) } := h
  unfold Machine.frameClock takeFrameStart
  split
  · rename_i active
    split
    · exact h
    · exact moved.beginComposition (congrArg Mode.composes active)
  · rename_i safe
    split
    · exact h
    · exact moved.beginComposition (congrArg Mode.composes safe)
  · exact moved.lamps (stageDirectFrames_only _).lamps
  · exact h
  · exact h

theorem Shaped.abortDirect (h : Shaped s) (outside : s.mode ≠ .start) : Shaped (abortDirect s) := by
  have torn : Shaped (teardown s) := ShapingHeld.teardown h outside
  unfold Machine.abortDirect
  rw [answerHeld_only]
  exact torn.latch .directAborted 0

theorem Shaped.recoverIfSeen (h : Shaped s) (outside : s.mode ≠ .start) : Shaped (recoverIfSeen s) := by
  unfold Machine.recoverIfSeen
  split
  · exact h.enter outside (next := .active) (by decide) (by decide)
  · exact h

theorem Shaped.afterSceneAccepted (h : Shaped s) : Shaped (afterSceneAccepted s) := by
  unfold Machine.afterSceneAccepted
  split
  · exact h
  · exact h
  · exact h
  · rename_i safe
    exact Shaped.recoverIfSeen (s := { s with sceneSeen := true }) h (by simp [safe])
  · rename_i direct
    split
    · exact h.abortDirect (by simp [direct])
    · exact h

theorem Shaped.afterTrackAccepted (h : Shaped s) : Shaped (afterTrackAccepted s) := by
  unfold Machine.afterTrackAccepted
  split
  · exact h
  · rename_i safe
    exact Shaped.recoverIfSeen (s := { s with trackSeen := true }) h (by simp [safe])
  · exact h
  · exact h
  · exact h

/-- The entry to SAFE behind the latching of its cause (R151, R152). -/
theorem Shaped.enterSafe (h : Shaped s) (active : s.mode = .active) (kind : FaultKind) :
    Shaped (enterSafe (Machine.latch kind 0 s)) :=
  (h.latch kind 0).enter (by simp [active]) (next := .safe) (by decide) (by decide)

theorem Shaped.sceneTimerExpired (h : Shaped s) : Shaped (sceneTimerExpired s) := by
  unfold Machine.sceneTimerExpired
  split
  · rename_i active
    exact h.enterSafe active _
  · rename_i direct
    exact h.abortDirect (by simp [direct])
  · exact h
  · exact h
  · exact h

theorem Shaped.trackTimerExpired (h : Shaped s) : Shaped (trackTimerExpired s) := by
  unfold Machine.trackTimerExpired
  split
  · rename_i active
    exact h.enterSafe active _
  all_goals exact h

/-! ## The Calibration Store -/

theorem Shaped.judgeGroup (h : Shaped s) (start : s.mode = .start) (image : List Byte) (g : Nat) :
    Shaped (judgeGroup image s g) := by
  unfold Machine.judgeGroup
  split
  · exact h
  · split
    · rename_i sound
      exact h.retable (.inl start) (h.admitted.set (groupSound_admitted sound))
    · exact h.latch _ _

theorem Shaped.loadImage (h : Shaped s) (loading : s.autoload.isSome = true) (image : List Byte) :
    Shaped (loadImage image s) := by
  have judged := List.foldlRecOn (motive := fun t => Shaped t ∧ t.mode = .start) (List.range 8)
    (Machine.judgeGroup image) (b := { s with holdingBuffer := image }) ⟨h, h.loading.1 loading⟩
    fun t ⟨ht, start⟩ g _ => ⟨ht.judgeGroup start image g, by rw [judgeGroup_only]; exact start⟩
  obtain ⟨held, start⟩ := judged
  exact held.endAutoload start

theorem Shaped.failAutoload (h : Shaped s) (loading : s.autoload.isSome = true) : Shaped (failAutoload s) := by
  have start := h.loading.1 loading
  have defaults : Shaped { s with holdingBuffer := [], tables := defaultTables } :=
    h.retable (.inl start) tablesAdmitted_default
  exact (defaults.latch .calAbsent 0).endAutoload (by simpa using start)

/-- An item in range is written (R179). -/
theorem tablesAdmitted_setItem (h : TablesAdmitted s.tables) {table index : Nat} {value : Int}
    (admits : itemAdmits table index value = true) : TablesAdmitted (setItem table index value s).tables := by
  unfold itemAdmits at admits
  split at admits
  · rename_i item hi
    exact h.modify fun values hv => valuesAdmitted_set hv hi admits
  · cases admits

/-- CONFIG WRITE is carried out in STANDBY, where the Beam Shaper is at rest (R179). -/
theorem Shaped.writeItems (h : Shaped s) (standby : s.mode = .standby) (table n index : Nat) (bytes : List Byte) :
    Shaped (writeItems table n index bytes s).1 := by
  induction n generalizing s index bytes with
  | zero => exact h
  | succ n ih =>
    unfold Machine.writeItems
    dsimp only
    split
    · rename_i admits
      have written : Shaped (setItem table index (itemValue table index (byteAt bytes 0) (byteAt bytes 1)) s) :=
        h.retable (.inr standby) (tablesAdmitted_setItem h.admitted admits)
      exact ih written standby _ _
    · exact h

/-! ## Requests -/

theorem Shaped.serveScene (h : Shaped s) (f : LinkFrame) : Shaped (serveScene f s) := by
  unfold Machine.serveScene
  split
  · exact h
  · split
    · exact h
    · exact Shaped.afterSceneAccepted (s := { s with scene := (takeScene f.payload s.timeBase s.scene).1 })
        (h.rescene (takeScene_inRange h.record _ _))

theorem Shaped.serveTrack (h : Shaped s) (f : LinkFrame) : Shaped (serveTrack f s) := by
  have accepted := Shaped.afterTrackAccepted (s := { s with lastTrackTime := s.timeBase, trackAccepted := true }) h
  have observed := accepted.table
    (observeAll_only (trackExposure f) (parseObservations (trackCount f.payload) (f.payload.drop 4)) _)
  unfold Machine.serveTrack
  split
  · exact h
  · split
    · exact h
    · split
      · exact h
      · exact observed

theorem Shaped.serveDrop (h : Shaped s) (f : LinkFrame) : Shaped (serveDrop f s) := by
  unfold Machine.serveDrop dropEntries
  repeat' split
  all_goals exact h

theorem Shaped.modeToStandby (h : Shaped s) (outside : s.mode ≠ .start) (f : LinkFrame) :
    Shaped (modeToStandby f s) := by
  have torn : Shaped (teardown s) := ShapingHeld.teardown h outside
  unfold Machine.modeToStandby
  split
  · exact h
  · exact torn
  · exact torn
  · exact torn
  · exact h

theorem Shaped.modeToActive (h : Shaped s) (outside : s.mode ≠ .start) (f : LinkFrame) : Shaped (modeToActive f s) := by
  unfold Machine.modeToActive activate
  split
  · split
    · exact h
    · exact h.enter outside (next := .active) (by decide) (by decide)
  all_goals exact h

theorem Shaped.modeToDirect (h : Shaped s) (outside : s.mode ≠ .start) (f : LinkFrame) : Shaped (modeToDirect f s) := by
  unfold Machine.modeToDirect directIfSlow
  split
  · split
    · exact h
    · split
      · exact h
      · exact h.enter outside (next := .direct) (by decide) (by decide)
  all_goals exact h

theorem Shaped.serveMode (h : Shaped s) (f : LinkFrame) : Shaped (serveMode f s) := by
  unfold Machine.serveMode
  split
  · exact h
  · split
    · exact h
    · rename_i outside
      split
      · exact h.modeToStandby outside f
      · exact h.modeToActive outside f
      · exact h.modeToDirect outside f
      · exact h

/-- A QUERY only reports (R171). -/
theorem Shaped.serveQuery (h : Shaped s) (f : LinkFrame) : Shaped (serveQuery f s) := by
  unfold Machine.serveQuery answerQuery Machine.queryShadows Machine.queryLevels
  repeat' split
  all_goals exact h

theorem Shaped.serveConfigWrite (h : Shaped s) (f : LinkFrame) : Shaped (serveConfigWrite f s) := by
  unfold Machine.serveConfigWrite
  dsimp only
  split
  · exact h
  · split
    · exact h
    · rename_i standby
      split
      · exact h
      · exact h.writeItems (Decidable.not_not.1 standby) _ _ _ _

theorem Shaped.serveConfigRead (h : Shaped s) (f : LinkFrame) : Shaped (serveConfigRead f s) := by
  unfold Machine.serveConfigRead
  dsimp only
  repeat' split
  all_goals exact h

theorem Shaped.serveDirectLevels (h : Shaped s) (f : LinkFrame) : Shaped (serveDirectLevels f s) := by
  have written : ∀ k g values, Shaped (writeDirect k g values s) := fun _ _ _ => h.lamps (setHead_only _ _ _).lamps
  unfold Machine.serveDirectLevels
  split
  · exact h
  · split
    · exact h
    · split
      · exact h
      · split
        · exact h
        · exact written _ _ _

theorem Shaped.serveNodePass (h : Shaped s) (f : LinkFrame) : Shaped (serveNodePass f s) := by
  unfold Machine.serveNodePass
  split
  · exact h
  · split
    · exact h
    · split
      · exact h
      · exact Shaped.lamps (s := { s with handler := .serving f, passThrough := some f.asPass }) h
          (requestArrived_only _).lamps

theorem Shaped.serve (h : Shaped s) (f : LinkFrame) : Shaped (serve f s) := by
  unfold Machine.serve
  split
  · exact h.serveScene f
  · exact h.serveTrack f
  · exact h.serveDrop f
  · exact h.serveMode f
  · exact h.serveQuery f
  · exact h.serveConfigWrite f
  · exact h.serveConfigRead f
  · exact h.serveDirectLevels f
  · exact h.serveNodePass f
  · exact h

end

/-! ## Steps -/

theorem shaped_keptByParts : KeptByParts Shaped where
  link := fun only h => h.link only
  count := fun _ h => h
  reset := shaped_reset
  loadImage := fun image loading h => h.loadImage loading image
  failAutoload := fun loading h => h.failAutoload loading
  serve := fun f h => h.serve f
  sceneTimerExpired := fun h => h.sceneTimerExpired
  trackTimerExpired := fun h => h.trackTimerExpired
  frameClock := fun h => h.frameClock
  finishHeadStage := fun {s} h =>
    Shaped.lamps (s := { s with composition := (finishHeadStage s).composition }) h (finishHeadStage_only s).lamps
  finishBlock := fun {s} h => h.lamps (finishBlock_only s)
  failExchange := fun {s} h => h.lamps (failExchange_only s)
  receiveEchoInput := fun {s} port input stopLow h => h.lamps (receiveEchoInput_only port input stopLow s)

/-- Settles O59: `Shaped` is kept by every part, and so by every step. -/
theorem stepKeepsSceneAndShaperInRange : Obligations.StepKeepsSceneAndShaperInRange := by
  unfold Obligations.StepKeepsSceneAndShaperInRange
  intro s t calibration rest scene shaper e
  have held : Shaped t := shaped_keptByParts.step (shaped_of_laws calibration rest scene shaper) e
  exact ⟨held.record, held.bends⟩

end Sys2Proof.Machine
end

section
/-! PROOFS. The expiries of the two timers, by the mode (R127, R147, R151, R152, R155). -/

namespace Sys2Proof.Machine

/-! ## The deadline (R147) -/

/-- The state at a timer's deadline. -/
def State.atDeadline (s : State) (deadline : Millis) : State := { s with micros := max s.micros (s.microsAt deadline) }

theorem atDeadline_timeBase (s : State) (deadline : Millis) : (s.atDeadline deadline).timeBase = deadline :=
  timeBase_passTo_microsAt deadline s

theorem micros_le_atDeadline (s : State) (deadline : Millis) : s.micros ≤ (s.atDeadline deadline).micros :=
  Nat.le_max_left _ _

theorem exec_sceneTimerExpiry {s : State} {deadline : Millis} (running : s.sceneTimer = some deadline)
    (first : Undisturbed .sceneTimerExpiry s) :
    exec .sceneTimerExpiry s = .next (sceneTimerExpired (s.atDeadline deadline)) :=
  exec_at (congrArg (Option.map s.microsAt) running) first

theorem exec_trackTimerExpiry {s : State} {deadline : Millis} (running : s.trackTimer = some deadline)
    (first : Undisturbed .trackTimerExpiry s) :
    exec .trackTimerExpiry s = .next (trackTimerExpired (s.atDeadline deadline)) :=
  exec_at (congrArg (Option.map s.microsAt) running) first

/-! ## What an expiry does in each mode (R151, R152, R155) -/

section
variable {s : State}

theorem sceneTimerExpired_active (h : s.mode = .active) : sceneTimerExpired s = enterSafe (latch .sceneLost 0 s) := by
  simp only [sceneTimerExpired, h]

theorem sceneTimerExpired_direct (h : s.mode = .direct) : sceneTimerExpired s = abortDirect s := by
  simp only [sceneTimerExpired, h]

theorem sceneTimerExpired_stopped (h : s.mode = .start ∨ s.mode = .standby ∨ s.mode = .safe) :
    sceneTimerExpired s = { s with sceneTimer := none } := by
  rcases h with h | h | h <;> simp only [sceneTimerExpired, h]

theorem trackTimerExpired_active (h : s.mode = .active) : trackTimerExpired s = enterSafe (latch .trackLost 0 s) := by
  simp only [trackTimerExpired, h]

theorem trackTimerExpired_stopped (h : s.mode ≠ .active) : trackTimerExpired s = { s with trackTimer := none } := by
  cases mode : s.mode
  case active => exact absurd mode h
  all_goals simp only [trackTimerExpired, mode]

end

/-! ## SAFE is entered at a deadline (R151, R152) -/

/-- SAFE is entered with a fault latched at the deadline, whatever the list of the state in which the timer was set off. -/
theorem enterSafe_latch_atDeadline (kind : FaultKind) (s : State) (deadline : Millis) :
    enterSafe (latch kind 0 (s.atDeadline deadline)) =
      { s with
        micros := (s.atDeadline deadline).micros, mode := .safe, trackPending := false, sceneSeen := false,
        trackSeen := false, sceneTimer := none, trackTimer := none, slots := List.replicate 16 none,
        faults := (latchFault kind 0 deadline s).faults
        faultOverflow := (latchFault kind 0 deadline s).faultOverflow } := by
  rw [latch, atDeadline_timeBase, latchFault_eq kind 0 deadline (s := s) (t := s.atDeadline deadline) rfl rfl]
  rfl

/-! ## DIRECT is aborted at a deadline (R127, R155) -/

/-- What a DIRECT stay that is aborted at a deadline leaves before an outstanding NODE PASS is answered: teardown, with the
fault latched in the list of before, which teardown keeps (R154, R155, log 9). -/
def State.abortedAt (s : State) (deadline : Millis) : State :=
  { teardown (s.atDeadline deadline) with
    faults := (latchFault .directAborted 0 deadline s).faults
    faultOverflow := (latchFault .directAborted 0 deadline s).faultOverflow }

theorem abortDirect_atDeadline (s : State) (deadline : Millis) :
    abortDirect (s.atDeadline deadline) = answerHeld .wrongState [] (s.abortedAt deadline) := by
  have base : (teardown (s.atDeadline deadline)).timeBase = deadline := atDeadline_timeBase s deadline
  have latched := latchFault_eq .directAborted 0 deadline (s := s) (t := teardown (s.atDeadline deadline)) rfl rfl
  rw [abortDirect, latch, base, latched]
  rfl

theorem answerHeld_serving {s : State} {f : LinkFrame} (h : s.handler = .serving f) (status : Status) (part : List Byte) :
    answerHeld status part s = answer f status part s := by
  simp only [answerHeld, h]

theorem answerHeld_unheld {s : State} (h : ∀ f, s.handler ≠ .serving f) (status : Status) (part : List Byte) :
    answerHeld status part s = s := by
  unfold answerHeld
  split
  · rename_i f e
    exact absurd e (h f)
  · rfl
  · rfl

/-- The reply to an outstanding NODE PASS leaves everything that an aborted stay returns to rest, and the fault list
(R154, R155). -/
theorem answerHeld_abortedAt (s : State) (deadline : Millis) :
    let t := answerHeld .wrongState [] (s.abortedAt deadline)
    TeardownValues t ∧ t.scene = s.scene ∧
      t.faults = (latchFault .directAborted 0 deadline s).faults ∧
      t.faultOverflow = (latchFault .directAborted 0 deadline s).faultOverflow ∧ OnlyTornDown s t := by
  rw [answerHeld_only]
  exact ⟨⟨rfl, rfl, rfl, rfl, rfl, rfl, rfl, rfl, rfl, rfl, rfl, rfl, rfl, rfl, rfl, rfl, rfl, rfl⟩, rfl, rfl, rfl, rfl⟩

/-! ## The expiries together -/

theorem sceneTimerExpired_micros (s : State) : (sceneTimerExpired s).micros = s.micros :=
  (happen_clock .sceneTimerExpiry s).2.2.1

theorem trackTimerExpired_micros (s : State) : (trackTimerExpired s).micros = s.micros :=
  (happen_clock .trackTimerExpiry s).2.2.1

/-- Settles O29: each expiry is taken at its deadline, and is there the equation of its mode. -/
theorem timerExpiriesActByMode : Obligations.TimerExpiriesActByMode := by
  unfold Obligations.TimerExpiriesActByMode
  intro s
  have stopped : ∀ timer : Option Millis, timer = none → timer.map s.microsAt = none := by
    rintro _ rfl
    rfl
  refine ⟨⟨fun none => exec_without (by decide) (stopped _ none), fun deadline running first => ?scene⟩,
    fun none => exec_without (by decide) (stopped _ none), fun deadline running first => ?track⟩
  case scene =>
    refine ⟨_, exec_sceneTimerExpiry running first, ?_, ?_, fun active => ?_, fun direct => ?_, fun other => ?_⟩
    · rw [timeBase_congr (sceneTimerExpired_micros _), atDeadline_timeBase]
    · rw [sceneTimerExpired_micros]
      exact micros_le_atDeadline s deadline
    · rw [sceneTimerExpired_active (s := s.atDeadline deadline) active, enterSafe_latch_atDeadline]
      exact ⟨rfl, rfl, rfl⟩
    · rw [sceneTimerExpired_direct (s := s.atDeadline deadline) direct, abortDirect_atDeadline]
      obtain ⟨values, scene, faults, overflow, only⟩ := answerHeld_abortedAt s deadline
      refine ⟨values, scene, faults, overflow, only, fun f held => ?_, fun unheld => ?_⟩
      · rw [answerHeld_serving (s := s.abortedAt deadline) held]
        exact ⟨rfl, rfl⟩
      · rw [answerHeld_unheld (s := s.abortedAt deadline) unheld]
        exact ⟨rfl, rfl⟩
    · rw [sceneTimerExpired_stopped (s := s.atDeadline deadline) other]
      rfl
  case track =>
    refine ⟨_, exec_trackTimerExpiry running first, ?_, ?_, fun active => ?_, fun other => ?_⟩
    · rw [timeBase_congr (trackTimerExpired_micros _), atDeadline_timeBase]
    · rw [trackTimerExpired_micros]
      exact micros_le_atDeadline s deadline
    · rw [trackTimerExpired_active (s := s.atDeadline deadline) active, enterSafe_latch_atDeadline]
      exact ⟨rfl, rfl, rfl⟩
    · rw [trackTimerExpired_stopped (s := s.atDeadline deadline) other]
      rfl

end Sys2Proof.Machine
end

section
/-! PROOFS. The moments of an exchange (R109, R110, R115, R116). -/

namespace Sys2Proof.Machine

/-! ## The length of a block (R109, R110) -/

theorem length_packBits (n : Nat) (bits : List Bool) : (packBits n bits).length = n := by
  induction n generalizing bits with
  | zero => rfl
  | succ n ih => rw [packBits, List.length_cons, ih]

theorem length_packLevels (levels : List Nat) : (packLevels levels).length = 20 := length_packBits 20 _

theorem length_blockBytes_levels (node : Nat) (levels : List Nat) : (blockBytes node (.levels levels)).length = 24 := by
  simp [blockBytes, blockCovered, length_packLevels]

theorem length_blockBytes_service (node : Nat) (bytes : List Byte) :
    (blockBytes node (.service bytes)).length = bytes.length + 5 := by
  simp [blockBytes, blockCovered]

/-! ## When the moments of an exchange come (R109, R115, R116) -/

section
variable {s : State} {x : Exchange} (inFlight : s.exchange = some x)
include inFlight

theorem causeAt_blockSent : causeAt .blockSent s = blockSentAt x :=
  congrArg (Option.bind · blockSentAt) inFlight

theorem causeAt_echoStartTimeout : causeAt .echoStartTimeout s = startTimeoutAt s.echoTimeout x :=
  congrArg (Option.bind · (startTimeoutAt s.echoTimeout)) inFlight

theorem causeAt_echoSilenceTimeout : causeAt .echoSilenceTimeout s = echoSilenceAt x :=
  congrArg (Option.bind · echoSilenceAt) inFlight

theorem causeAt_echoHardLimit : causeAt .echoHardLimit s = hardLimitAt s.echoTimeout x :=
  congrArg (Option.bind · (hardLimitAt s.echoTimeout)) inFlight

/-- A command that ends an exchange in failure does so at the moment of its cause (R115, R116). -/
theorem exec_failing {c : Instr} {moment : Nat} (cause : causeAt c s = some moment)
    (failing : ∀ u, happen c u = failExchange u) (first : Undisturbed c s) :
    exec c s = .next (completeExchange x .failed { s with micros := max s.micros moment }) := by
  rw [exec_at cause first, failing]
  simp only [failExchange, inFlight]

/-- At its end a block has gone out and the echo is awaited (R109, R115). -/
theorem exec_blockSent (sending : x.phase = .sending) (first : Undisturbed .blockSent s) :
    exec .blockSent s =
      .next { s with
        micros := max s.micros (blockEnd x)
        exchange := some { x with phase := .awaiting (max s.micros (blockEnd x)) } } := by
  have cause : causeAt .blockSent s = some (blockEnd x) := by
    rw [causeAt_blockSent inFlight, blockSentAt, sending]
  rw [exec_at cause first]
  simp only [happen, finishBlock, inFlight, setPhase]

end

/-- No block is being sent: its end has no cause. -/
theorem causeAt_blockSent_none {s : State} (h : ∀ x, s.exchange = some x → x.phase ≠ .sending) :
    causeAt .blockSent s = none := by
  cases e : s.exchange with
  | none => exact congrArg (Option.bind · blockSentAt) e
  | some x =>
    rw [causeAt_blockSent e]
    cases phase : x.phase
    case sending => exact absurd phase (h x e)
    all_goals rw [blockSentAt, phase]

/-- Settles O46: phase by phase, each command without a cause, or at the moment of its cause. -/
theorem exchangeMomentsMoveTheExchange : Obligations.ExchangeMomentsMoveTheExchange := by
  unfold Obligations.ExchangeMomentsMoveTheExchange
  refine fun s => ⟨fun idle => exec_without (by decide) (causeAt_blockSent_none idle), fun x inFlight => ?_⟩
  intro fails
  have startTimeout := causeAt_echoStartTimeout inFlight
  have silence := causeAt_echoSilenceTimeout inFlight
  have hardLimit := causeAt_echoHardLimit inFlight
  refine ⟨fun sending first => ?_, fun ended awaiting => ?_, fun ended bytes silentSince begun => ?_⟩
  · refine ⟨_, exec_blockSent inFlight sending first, ?_, rfl⟩
    rw [blockEnd, Exchange.blockDuration]
    cases x.content with
    | levels levels => rw [length_blockBytes_levels]
    | service bytes => rw [length_blockBytes_service]
  · rw [startTimeoutAt, awaiting] at startTimeout
    rw [echoSilenceAt, awaiting] at silence
    rw [hardLimitAt, awaiting] at hardLimit
    exact ⟨exec_failing inFlight startTimeout fun _ => rfl, exec_failing inFlight hardLimit fun _ => rfl,
      exec_without (by decide) silence⟩
  · have startTimeout : causeAt .echoStartTimeout s = none := by
      rcases begun with phase | phase <;> rw [startTimeout, startTimeoutAt, phase]
    have silence : causeAt .echoSilenceTimeout s = silentSince.map (· + 20) := by
      rcases begun with phase | phase <;> rw [silence, echoSilenceAt, phase]
    have hardLimit : causeAt .echoHardLimit s = some (ended + s.itemNat 1 3 + 750) := by
      rcases begun with phase | phase <;> rw [hardLimit, hardLimitAt, phase] <;> rfl
    refine ⟨fun t since => exec_failing inFlight ?_ fun _ => rfl, fun coming => exec_without (by decide) ?_,
      exec_failing inFlight hardLimit fun _ => rfl, exec_without (by decide) startTimeout⟩
    · rw [silence, since]
      rfl
    · rw [silence, coming]
      rfl

end Sys2Proof.Machine
end

section
/-! PROOFS. The bytes of an echo before its last (R109, R111, R114, R115, R116). -/

namespace Sys2Proof.Machine

/-! ## The entry at a place of two lists put together -/

theorem getD_append_left {front : List α} {i : Nat} (h : i < front.length) (back : List α) (d : α) :
    (front ++ back).getD i d = front.getD i d := by
  rw [List.getD_eq_getElem?_getD, List.getElem?_append_left h, List.getD_eq_getElem?_getD]

theorem getD_append_right {front : List α} {i : Nat} (h : front.length ≤ i) (back : List α) (d : α) :
    (front ++ back).getD i d = back.getD (i - front.length) d := by
  rw [List.getD_eq_getElem?_getD, List.getElem?_append_right h, List.getD_eq_getElem?_getD]

theorem byteAt_append_left {front : List Byte} {i : Nat} (h : i < front.length) (back : List Byte) :
    byteAt (front ++ back) i = byteAt front i :=
  getD_append_left h back 0

theorem byteAt_append_right {front : List Byte} {i : Nat} (h : front.length ≤ i) (back : List Byte) :
    byteAt (front ++ back) i = byteAt back (i - front.length) :=
  getD_append_right h back 0

/-- A byte that has come in stands behind those before it. -/
theorem byteAt_concat {bytes : List Byte} {i : Nat} (h : bytes.length = i) (b : Byte) : byteAt (bytes ++ [b]) i = b := by
  rw [byteAt_append_right (Nat.le_of_eq h), h, Nat.sub_self]
  rfl

/-! ## What the bytes so far say of the length (R111, R116) -/

section
variable {bytes : List Byte}

theorem echoProgress_levels (two : 2 ≤ bytes.length) (kind : byteAt bytes 1 = 1) :
    echoProgress bytes = if bytes.length < 29 then .incomplete else .complete := by
  rw [echoProgress, if_neg (Nat.not_lt.2 two), if_pos kind]

theorem echoProgress_service_short (short : bytes.length < 4) (kind : byteAt bytes 1 = 2) :
    echoProgress bytes = .incomplete := by
  simp [echoProgress, kind, short]

theorem echoProgress_service (four : 4 ≤ bytes.length) (kind : byteAt bytes 1 = 2) :
    echoProgress bytes =
      if byteAt bytes 3 = 0 ∨ 20 < (byteAt bytes 3).toNat then .noLength
      else if bytes.length < (byteAt bytes 3).toNat + 5 then .incomplete else .complete := by
  have notLevels : byteAt bytes 1 ≠ 1 := by rw [kind]; decide
  rw [echoProgress, if_neg (by omega), if_neg notLevels, if_pos kind, if_neg (Nat.not_lt.2 four)]

theorem echoProgress_noKind (two : 2 ≤ bytes.length) (notLevels : byteAt bytes 1 ≠ 1) (notService : byteAt bytes 1 ≠ 2) :
    echoProgress bytes = .noLength := by
  rw [echoProgress, if_neg (Nat.not_lt.2 two), if_neg notLevels, if_neg notService]

/-- A service length of 1 to 20 is a length (R110). -/
theorem echoProgress_service_fits (four : 4 ≤ bytes.length) (kind : byteAt bytes 1 = 2) (low : 1 ≤ (byteAt bytes 3).toNat)
    (high : (byteAt bytes 3).toNat ≤ 20) :
    echoProgress bytes = if bytes.length < (byteAt bytes 3).toNat + 5 then .incomplete else .complete := by
  rw [echoProgress_service four kind, if_neg]
  rintro (zero | above)
  · rw [zero] at low
    exact absurd low (by decide)
  · omega

end

/-! ## A byte on an echo-in line, by the phase of the exchange (R114, R115, R116) -/

section
variable {port : Head} {s : State}

theorem receiveEchoByte_noExchange (idle : s.exchange = none) (b : Byte) (stopLow : Bool) :
    receiveEchoByte port b stopLow s = s := by
  simp only [receiveEchoByte, idle]

theorem beginEchoByte_noExchange (idle : s.exchange = none) : beginEchoByte port s = s := by
  simp only [beginEchoByte, idle]

variable {x : Exchange} (inFlight : s.exchange = some x)
include inFlight

theorem receiveEchoByte_otherPort (other : x.port ≠ port) (b : Byte) (stopLow : Bool) :
    receiveEchoByte port b stopLow s = s := by
  simp only [receiveEchoByte, inFlight, if_pos other]

theorem beginEchoByte_otherPort (other : x.port ≠ port) : beginEchoByte port s = s := by
  simp only [beginEchoByte, inFlight, if_pos other]

theorem receiveEchoByte_sending (sending : x.phase = .sending) (b : Byte) (stopLow : Bool) :
    receiveEchoByte port b stopLow s = s := by
  simp only [receiveEchoByte, inFlight, sending, ite_self]

theorem beginEchoByte_sending (sending : x.phase = .sending) : beginEchoByte port s = s := by
  simp only [beginEchoByte, inFlight, sending, ite_self]

theorem beginEchoByte_awaiting {ended : Nat} (awaiting : x.phase = .awaiting ended) : beginEchoByte port s = s := by
  simp only [beginEchoByte, inFlight, awaiting, ite_self]

variable (same : x.port = port)
include same

theorem receiveEchoByte_awaiting {ended : Nat} (awaiting : x.phase = .awaiting ended) (b : Byte) (stopLow : Bool) :
    receiveEchoByte port b stopLow s =
      if stopLow = false ∧ b = 0xE2 then setPhase x (.receiving ended [b] (some s.micros)) s else s := by
  simp only [receiveEchoByte, inFlight, if_neg (not_not_intro same), awaiting]

variable {ended : Nat} {silentSince : Option Nat}

theorem receiveEchoByte_failed (failed : x.phase = .failed ended silentSince) (b : Byte) (stopLow : Bool) :
    receiveEchoByte port b stopLow s = setPhase x (.failed ended (some s.micros)) s := by
  simp only [receiveEchoByte, inFlight, if_neg (not_not_intro same), failed]

theorem beginEchoByte_failed (failed : x.phase = .failed ended silentSince) :
    beginEchoByte port s = setPhase x (.failed ended none) s := by
  simp only [beginEchoByte, inFlight, if_neg (not_not_intro same), failed]

variable {bytes : List Byte} (receiving : x.phase = .receiving ended bytes silentSince)
include receiving

theorem beginEchoByte_receiving : beginEchoByte port s = setPhase x (.receiving ended bytes none) s := by
  simp only [beginEchoByte, inFlight, if_neg (not_not_intro same), receiving]

theorem receiveEchoByte_stopLow (b : Byte) :
    receiveEchoByte port b true s = setPhase x (.failed ended (some s.micros)) s := by
  simp only [receiveEchoByte, inFlight, if_neg (not_not_intro same), receiving, if_true]

theorem receiveEchoByte_receiving (b : Byte) :
    receiveEchoByte port b false s = receiveEchoBody x ended (bytes ++ [b]) s := by
  simp only [receiveEchoByte, inFlight, if_neg (not_not_intro same), receiving, Bool.false_eq_true, if_false]

/-- A byte after which the echo can have no length fails it (R116). -/
theorem receiveEchoByte_noLength {b : Byte} (noLength : echoProgress (bytes ++ [b]) = .noLength) :
    receiveEchoByte port b false s = setPhase x (.failed ended (some s.micros)) s := by
  rw [receiveEchoByte_receiving inFlight same receiving, receiveEchoBody, noLength]

/-- A byte before the echo's last joins those received (R115). -/
theorem receiveEchoByte_incomplete {b : Byte} (incomplete : echoProgress (bytes ++ [b]) = .incomplete) :
    receiveEchoByte port b false s = setPhase x (.receiving ended (bytes ++ [b]) (some s.micros)) s := by
  rw [receiveEchoByte_receiving inFlight same receiving, receiveEchoBody, incomplete]

end

/-! ## The bytes that fail an echo, and those inside it (R111, R116) -/

section
variable {bytes : List Byte} {b : Byte}

/-- The kind byte names no kind. -/
theorem echoProgress_wrongKind (one : bytes.length = 1) (notLevels : b ≠ 1) (notService : b ≠ 2) :
    echoProgress (bytes ++ [b]) = .noLength := by
  have kind := byteAt_concat one b
  exact echoProgress_noKind (by simp [one]) (by rwa [kind]) (by rwa [kind])

/-- The service length byte is 0 or above 20. -/
theorem echoProgress_wrongLength (three : bytes.length = 3) (kind : byteAt bytes 1 = 2) (wrong : b = 0 ∨ 20 < b.toNat) :
    echoProgress (bytes ++ [b]) = .noLength := by
  rw [echoProgress_service (by simp [three]) (by rwa [byteAt_append_left (by omega)]), byteAt_concat three b, if_pos wrong]

/-- The byte is the kind byte, or stands in a levels echo or a service echo before its last (R110, R111). -/
def InsideEcho (bytes : List Byte) (b : Byte) : Prop :=
  (bytes.length = 1 ∧ (b = 1 ∨ b = 2)) ∨
  (byteAt bytes 1 = 1 ∧ 2 ≤ bytes.length ∧ bytes.length + 1 < 29) ∨
  (byteAt bytes 1 = 2 ∧ bytes.length = 2) ∨
  (byteAt bytes 1 = 2 ∧ bytes.length = 3 ∧ 1 ≤ b.toNat ∧ b.toNat ≤ 20) ∨
  (byteAt bytes 1 = 2 ∧ 4 ≤ bytes.length ∧ 1 ≤ (byteAt bytes 3).toNat ∧ (byteAt bytes 3).toNat ≤ 20 ∧
    bytes.length + 1 < (byteAt bytes 3).toNat + 5)

theorem echoProgress_inside (inside : InsideEcho bytes b) : echoProgress (bytes ++ [b]) = .incomplete := by
  have length : (bytes ++ [b]).length = bytes.length + 1 := by simp
  have early : ∀ i, i < bytes.length → byteAt (bytes ++ [b]) i = byteAt bytes i := fun i h => byteAt_append_left h [b]
  rcases inside with ⟨one, rfl | rfl⟩ | ⟨kind, two, before⟩ | ⟨kind, two⟩ | ⟨kind, three, low, high⟩ |
    ⟨kind, four, low, high, before⟩
  · rw [echoProgress_levels (by omega) (byteAt_concat one _), if_pos (by omega)]
  · exact echoProgress_service_short (by omega) (byteAt_concat one _)
  · rw [echoProgress_levels (by omega) (by rwa [early 1 (by omega)]), if_pos (by omega)]
  · exact echoProgress_service_short (by omega) (by rwa [early 1 (by omega)])
  · have last := byteAt_concat three b
    rw [echoProgress_service_fits (by omega) (by rwa [early 1 (by omega)]) (by rwa [last]) (by rwa [last]), last,
      if_pos (by omega)]
  · have place := early 3 (by omega)
    rw [echoProgress_service_fits (by omega) (by rwa [early 1 (by omega)]) (by rwa [place]) (by rwa [place]), place,
      if_pos (by omega)]

end

/-- Settles O47: phase by phase, from the equations of a byte and of a start bit in that phase. -/
theorem echoByteIsDiscardedTakenOrFailsTheEcho : Obligations.EchoByteIsDiscardedTakenOrFailsTheEcho := by
  unfold Obligations.EchoByteIsDiscardedTakenOrFailsTheEcho
  intro port b stopLow s
  have arrives : ∀ t, receiveEchoByte port b stopLow s = t →
      exec (.echoByteReceived port (.byte b) stopLow) s = .next t := fun _ h => congrArg Host.Outcome.next h
  have begins : ∀ t, beginEchoByte port s = t →
      exec (.echoByteReceived port .startBit stopLow) s = .next t := fun _ h => congrArg Host.Outcome.next h
  refine ⟨fun idle => ⟨arrives _ (receiveEchoByte_noExchange idle b stopLow), begins _ (beginEchoByte_noExchange idle)⟩,
    fun x inFlight => ⟨fun other => ?_, fun sending => ?_, fun ended same awaiting => ?_,
      fun ended bytes silentSince same receiving => ?_, fun ended silentSince same failed => ?_⟩⟩
  · exact ⟨arrives _ (receiveEchoByte_otherPort inFlight other b stopLow),
      begins _ (beginEchoByte_otherPort inFlight other)⟩
  · exact ⟨arrives _ (receiveEchoByte_sending inFlight sending b stopLow),
      begins _ (beginEchoByte_sending inFlight sending)⟩
  · have byte := receiveEchoByte_awaiting inFlight same awaiting b stopLow
    refine ⟨begins _ (beginEchoByte_awaiting inFlight awaiting), fun start good => arrives _ ?_,
      fun discarded => arrives _ ?_⟩
    · rw [byte, if_pos ⟨good, start⟩]
      rfl
    · rw [byte, if_neg]
      rintro ⟨good, start⟩
      simp [good, start] at discarded
  · refine ⟨begins _ (beginEchoByte_receiving inFlight same receiving), fun low => arrives _ ?_,
      fun good one notLevels notService => arrives _ ?_, fun good three kind wrong => arrives _ ?_,
      fun good inside => arrives _ ?_⟩
    · rw [low]
      exact receiveEchoByte_stopLow inFlight same receiving b
    · rw [good]
      exact receiveEchoByte_noLength inFlight same receiving (echoProgress_wrongKind one notLevels notService)
    · rw [good]
      exact receiveEchoByte_noLength inFlight same receiving (echoProgress_wrongLength three kind wrong)
    · rw [good]
      exact receiveEchoByte_incomplete inFlight same receiving (echoProgress_inside inside)
  · exact ⟨begins _ (beginEchoByte_failed inFlight same failed),
      arrives _ (receiveEchoByte_failed inFlight same failed b stopLow)⟩

end Sys2Proof.Machine
end

section
/-! PROOFS. The bytes of a block, and the judging of the last byte of an echo (R110, R111, R112, R116, R117). -/

namespace Sys2Proof.Machine

/-! ## The CRC-8 (R112) -/

/-- A byte is taken into the register by eight steps of the polynomial 0x1D. -/
theorem crc8_concat (bytes : List Byte) (b : Byte) :
    crc8 (bytes ++ [b]) =
      (List.range 8).foldl (fun (r : Byte) _ => if r.getMsbD 0 = true then (r <<< 1) ^^^ 0x1D else r <<< 1)
        (crc8 bytes ^^^ b) := by
  rw [crc8, List.foldl_append]
  rfl

/-! ## Fields of one width as a bit string (R110) -/

theorem length_flatMap_bitsOfNat (w : Nat) (fields : List Nat) :
    (fields.flatMap (bitsOfNat w)).length = w * fields.length := by
  induction fields with
  | nil => rfl
  | cons field fields ih =>
    rw [List.flatMap_cons, List.length_append, ih, bitsOfNat_eq, length_bitsOf, List.length_cons, Nat.mul_succ, Nat.add_comm]

/-- A bit of the string is one of the field it lies in, counted from that field's most significant. -/
theorem getD_flatMap_bitsOfNat {w : Nat} (pos : 0 < w) (fields : List Nat) {i : Nat} (h : i < w * fields.length) :
    (fields.flatMap (bitsOfNat w)).getD i false = (BitVec.ofNat w (fields.getD (i / w) 0)).getMsbD (i % w) := by
  induction fields generalizing i with
  | nil => exact absurd h (Nat.not_lt_zero i)
  | cons field fields ih =>
    have length : (bitsOfNat w field).length = w := by rw [bitsOfNat_eq, length_bitsOf]
    rw [List.length_cons, Nat.mul_succ] at h
    rw [List.flatMap_cons]
    by_cases first : i < w
    · rw [getD_append_left (by omega), Nat.div_eq_of_lt first, Nat.mod_eq_of_lt first, bitsOfNat_eq,
        List.getD_eq_getElem?_getD, getElem?_bitsOf, if_pos first]
      rfl
    · have place : i / w = (i - w) / w + 1 := Nat.div_eq_sub_div pos (Nat.not_lt.1 first)
      rw [getD_append_right (by omega), length, ih (by omega), place, List.getD_cons_succ,
        Nat.mod_eq_sub_mod (Nat.not_lt.1 first)]

/-- Every bit string is that of a bit vector. -/
theorem bitsOf_ofBoolListBE (bits : List Bool) : bitsOf (BitVec.ofBoolListBE bits) = bits := by
  apply List.ext_getElem?
  intro i
  rw [getElem?_bitsOf, BitVec.getMsbD_ofBoolListBE, List.getD_eq_getElem?_getD]
  split
  · rename_i h
    rw [List.getElem?_eq_getElem h]
    rfl
  · rename_i h
    rw [List.getElem?_eq_none (Nat.not_lt.1 h)]

/-- The bits of a string that is cut into bytes stand in them in their order, most significant first. -/
theorem getMsbD_byteAt_packBits {n : Nat} {bits : List Bool} (length : bits.length = 8 * n) {i : Nat} (h : i < 8 * n) :
    (byteAt (packBits n bits) (i / 8)).getMsbD (i % 8) = bits.getD i false := by
  have cut : packBits n bits = bigEndian n (BitVec.ofBoolListBE bits) := by
    rw [← packBits_bitsOf n _ length, bitsOf_ofBoolListBE]
  have byte : byteAt (bigEndian n (BitVec.ofBoolListBE bits)) (i / 8) =
      (BitVec.ofBoolListBE bits).extractLsb' (8 * (n - 1 - i / 8)) 8 := by
    rw [byteAt, bigEndian, List.getD_eq_getElem?_getD, List.getElem?_map, List.getElem?_range (by omega)]
    rfl
  have place : bits.length - (8 * (n - 1 - i / 8) + 8 - i % 8) = i := by omega
  rw [cut, byte, BitVec.getMsbD_extractLsb', place, BitVec.getMsbD_ofBoolListBE,
    decide_eq_true (show i % 8 < 8 by omega), decide_eq_true (show 8 * (n - 1 - i / 8) + 8 - i % 8 ≤ bits.length by omega)]
  rfl

/-! ## Sixteen levels in twenty bytes (R110, R111) -/

/-- Twenty bytes hold sixteen levels as one string of 160 bits, ten for each, most significant first (R110). -/
def PacksLevels (packed : List Byte) (levels : List Nat) : Prop :=
  packed.length = 20 ∧
    ∀ i < 160, (byteAt packed (i / 8)).getMsbD (i % 8) = (BitVec.ofNat 10 (levels.getD (i / 10) 0)).getMsbD (i % 10)

theorem packsLevels_packLevels {levels : List Nat} (sixteen : levels.length = 16) :
    PacksLevels (packLevels levels) levels := by
  have length : (levels.flatMap (bitsOfNat 10)).length = 8 * 20 := by rw [length_flatMap_bitsOfNat, sixteen]
  refine ⟨length_packLevels levels, fun i h => ?_⟩
  rw [packLevels, getMsbD_byteAt_packBits length h, getD_flatMap_bitsOfNat (by decide) levels (by omega)]

/-- The bit string of packed levels is that of the levels. -/
theorem PacksLevels.unpackBits {packed : List Byte} {levels : List Nat} (packs : PacksLevels packed levels)
    (sixteen : levels.length = 16) : unpackBits packed = levels.flatMap (bitsOfNat 10) := by
  obtain ⟨twenty, bits⟩ := packs
  have bytes : Machine.unpackBits packed = (packed.map BitVec.toNat).flatMap (bitsOfNat 8) := by
    rw [Machine.unpackBits, List.flatMap_map]
  have length : ((packed.map BitVec.toNat).flatMap (bitsOfNat 8)).length = 160 := by
    rw [length_flatMap_bitsOfNat, List.length_map, twenty]
  have length' : (levels.flatMap (bitsOfNat 10)).length = 160 := by rw [length_flatMap_bitsOfNat, sixteen]
  rw [bytes]
  refine List.ext_getElem (length.trans length'.symm) fun i h h' => ?_
  have byte : BitVec.ofNat 8 ((packed.map BitVec.toNat).getD (i / 8) 0) = byteAt packed (i / 8) := by
    have within : i / 8 < packed.length := by omega
    rw [byteAt, List.getD_eq_getElem?_getD, List.getD_eq_getElem?_getD, List.getElem?_map,
      List.getElem?_eq_getElem within]
    exact (BitVec.ofNat_toNat 8 _).trans (BitVec.setWidth_eq _)
  rw [List.getElem_eq_getD false, List.getElem_eq_getD false,
    getD_flatMap_bitsOfNat (by decide) _ (by rw [List.length_map]; omega),
    getD_flatMap_bitsOfNat (by decide) _ (by omega), byte, bits i (by omega)]

/-- Levels of ten bits are read back from their bit string. -/
theorem takeLevels_flatMap {levels : List Nat} (inRange : ∀ level ∈ levels, level ≤ 1023) :
    takeLevels levels.length (levels.flatMap (bitsOfNat 10)) = levels := by
  induction levels with
  | nil => rfl
  | cons level levels ih =>
    have length : (bitsOfNat 10 level).length = 10 := by rw [bitsOfNat_eq, length_bitsOf]
    have bound := inRange level (.head _)
    rw [List.length_cons, takeLevels, List.flatMap_cons, List.take_left' length, List.drop_left' length,
      natOfBits_bitsOfNat, Nat.mod_eq_of_lt (by omega), ih fun l h => inRange l (.tail _ h)]

theorem PacksLevels.unpackLevels {packed : List Byte} {levels : List Nat} (packs : PacksLevels packed levels)
    (sixteen : levels.length = 16) (inRange : ∀ level ∈ levels, level ≤ 1023) : unpackLevels packed = levels := by
  rw [Machine.unpackLevels, packs.unpackBits sixteen, ← sixteen, takeLevels_flatMap inRange]

/-! ## A complete echo is judged (R112, R116) -/

/-- An echo is complete: a levels echo of 29 bytes, or a service echo of its service length and five (R110, R111). -/
def CompleteEcho (echo : List Byte) : Prop :=
  (byteAt echo 1 = 1 ∧ echo.length = 29) ∨
    (byteAt echo 1 = 2 ∧ 1 ≤ (byteAt echo 3).toNat ∧ (byteAt echo 3).toNat ≤ 20 ∧
      echo.length = (byteAt echo 3).toNat + 5)

theorem echoProgress_complete {echo : List Byte} (complete : CompleteEcho echo) : echoProgress echo = .complete := by
  rcases complete with ⟨kind, length⟩ | ⟨kind, low, high, length⟩
  · rw [echoProgress_levels (by omega) kind, if_neg (by omega)]
  · rw [echoProgress_service_fits (by omega) kind low high, if_neg (by omega)]

/-- A complete echo is good by its kind, its node and its CRC-8, which is its last byte. -/
theorem echoGood_concat {x : Exchange} {bytes : List Byte} {b : Byte} :
    echoGood x (bytes ++ [b]) = true ↔
      byteAt (bytes ++ [b]) 1 = x.content.kind ∧ byteAt (bytes ++ [b]) 2 = byteOf x.node ∧
        crc8 (bytes ++ [b]).tail.dropLast = b := by
  have last : byteAt (bytes ++ [b]) ((bytes ++ [b]).length - 1) = b := byteAt_concat (by simp) b
  rw [echoGood, echoIntact, last, Bool.and_eq_true, Bool.and_eq_true, beq_iff_eq, beq_iff_eq, beq_iff_eq, and_assoc]

section
variable {s : State} {x : Exchange} {ended : Nat} {silentSince : Option Nat} {bytes : List Byte} {b : Byte}
  (inFlight : s.exchange = some x) (receiving : x.phase = .receiving ended bytes silentSince)
  (complete : CompleteEcho (bytes ++ [b]))
include inFlight receiving complete

theorem exec_echoReceived_complete :
    exec (.echoReceived x.port b) s =
      .next (if echoGood x (bytes ++ [b]) then completeExchange x (echoOutcome x (bytes ++ [b])) s
        else setPhase x (.failed ended (some s.micros)) s) := by
  refine congrArg Host.Outcome.next ?_
  rw [receiveEchoByte_receiving inFlight rfl receiving, receiveEchoBody, echoProgress_complete complete]

/-- An echo that ends with the CRC-8 of its body, of the block's kind and node, completes the exchange (R116, R117). -/
theorem exec_echoReceived_good {start : Byte} {body : List Byte} (echo : bytes ++ [b] = start :: (body ++ [crc8 body]))
    (kind : byteAt (bytes ++ [b]) 1 = x.content.kind) (node : byteAt (bytes ++ [b]) 2 = byteOf x.node) :
    exec (.echoReceived x.port b) s = .next (completeExchange x (echoOutcome x (bytes ++ [b])) s) := by
  have crc : b = crc8 body := by
    have := List.append_inj_right' (echo.trans (List.cons_append (a := start) ..).symm) rfl
    exact (List.cons.inj this).1
  have covered : (bytes ++ [b]).tail.dropLast = body := by rw [echo, List.tail_cons, List.dropLast_concat]
  rw [exec_echoReceived_complete inFlight receiving complete, if_pos]
  exact echoGood_concat.2 ⟨kind, node, by rw [covered, crc]⟩

/-- An echo with a wrong kind, node or CRC-8 fails (R116). -/
theorem exec_echoReceived_bad
    (wrong : byteAt (bytes ++ [b]) 1 ≠ x.content.kind ∨ byteAt (bytes ++ [b]) 2 ≠ byteOf x.node ∨
      crc8 (bytes ++ [b]).tail.dropLast ≠ b) :
    exec (.echoReceived x.port b) s = .next (setPhase x (.failed ended (some s.micros)) s) := by
  rw [exec_echoReceived_complete inFlight receiving complete, if_neg]
  intro good
  obtain ⟨kind, node, crc⟩ := echoGood_concat.1 good
  rcases wrong with h | h | h
  · exact h kind
  · exact h node
  · exact h crc

end

/-! ## What a good echo says (R111, R117) -/

theorem word16_bigEndian (v : BitVec 16) : word16 (v.extractLsb' 8 8) (v.extractLsb' 0 8) = v := by
  apply BitVec.eq_of_getLsbD_eq
  intro i h
  rw [word16, BitVec.getLsbD_append, BitVec.getLsbD_extractLsb', BitVec.getLsbD_extractLsb']
  by_cases low : i < 8
  · simp [low]
  · simp [low, show i - 8 < 8 by omega, show 8 + (i - 8) = i by omega]

/-- The bytes of a levels echo: start, kind, node, levels, the two flag words, derate and CRC-8 (R111). -/
def levelsEcho (node : Nat) (packed : List Byte) (echo : LastEcho) (crc : Byte) : List Byte :=
  [0xE2, 1, byteOf node] ++ packed ++ (bigEndian 2 echo.openFlags ++ bigEndian 2 echo.shortFlags ++ [echo.derate, crc])

section
variable {node : Nat} {packed : List Byte} {echo : LastEcho} {crc : Byte}

theorem completeEcho_levelsEcho (twenty : packed.length = 20) : CompleteEcho (levelsEcho node packed echo crc) :=
  .inl ⟨rfl, by simp [levelsEcho, bigEndian, twenty]⟩

/-- The fields of a levels echo are read where they stand. -/
theorem echoOutcome_levels {x : Exchange} {sent : List Nat} (content : x.content = .levels sent)
    (twenty : packed.length = 20) :
    echoOutcome x (levelsEcho node packed echo crc) = .goodLevels sent (unpackLevels packed) echo := by
  have length : ([0xE2, 1, byteOf node] ++ packed).length = 23 := by simp [twenty]
  have field : ∀ i, byteAt (levelsEcho node packed echo crc) (23 + i) =
      byteAt (bigEndian 2 echo.openFlags ++ bigEndian 2 echo.shortFlags ++ [echo.derate, crc]) i := fun i => by
    rw [levelsEcho, byteAt_append_right (by omega), length, Nat.add_sub_cancel_left]
  have levels : ((levelsEcho node packed echo crc).drop 3).take 20 = packed := List.take_left' twenty
  have opened : word16 (byteAt (levelsEcho node packed echo crc) 23) (byteAt (levelsEcho node packed echo crc) 24) =
      echo.openFlags := by
    rw [field 0, field 1]
    exact word16_bigEndian echo.openFlags
  have shorted : word16 (byteAt (levelsEcho node packed echo crc) 25) (byteAt (levelsEcho node packed echo crc) 26) =
      echo.shortFlags := by
    rw [field 2, field 3]
    exact word16_bigEndian echo.shortFlags
  have derate : byteAt (levelsEcho node packed echo crc) 27 = echo.derate := field 4
  simp only [echoOutcome, content, levels, opened, shorted, derate]

end

/-- The bytes of a service echo: start, kind, node, length, service bytes and CRC-8 (R111). -/
def serviceEcho (node : Nat) (echoed : List Byte) (crc : Byte) : List Byte :=
  [0xE2, 2, byteOf node, byteOf echoed.length] ++ echoed ++ [crc]

section
variable {node : Nat} {echoed : List Byte} {crc : Byte} (high : echoed.length ≤ 20)
include high

theorem serviceEcho_length : (byteAt (serviceEcho node echoed crc) 3).toNat = echoed.length := by
  have place : byteAt (serviceEcho node echoed crc) 3 = byteOf echoed.length := rfl
  rw [place, byteOf, BitVec.toNat_ofNat, Nat.mod_eq_of_lt (by omega)]

theorem completeEcho_serviceEcho (low : 1 ≤ echoed.length) : CompleteEcho (serviceEcho node echoed crc) := by
  have length := serviceEcho_length (node := node) (crc := crc) high
  refine .inr ⟨rfl, by omega, by omega, ?_⟩
  rw [length]
  simp [serviceEcho]

theorem echoOutcome_service {x : Exchange} {sent : List Byte} (content : x.content = .service sent) :
    echoOutcome x (serviceEcho node echoed crc) = .goodService echoed := by
  have bytes : ((serviceEcho node echoed crc).drop 4).take echoed.length = echoed := List.take_left' rfl
  simp only [echoOutcome, content, serviceEcho_length high, bytes]

end

/-- Settles O48: the CRC-8 and the bytes of the two blocks, then the two good echoes and those that fail. -/
theorem lastByteOfAnEchoIsJudged : Obligations.LastByteOfAnEchoIsJudged := by
  unfold Obligations.LastByteOfAnEchoIsJudged
  refine ⟨⟨rfl, crc8_concat⟩, fun node levels sixteen => ⟨packLevels levels, packsLevels_packLevels sixteen, rfl⟩,
    fun node bytes => rfl, fun s x ended silentSince bytes b inFlight receiving => ⟨?levels, ?service, ?wrong⟩⟩
  case levels =>
    intro sent echoed packed derate openFlags shortFlags body content sixteen inRange packs echo
    have layout : bytes ++ [b] = levelsEcho x.node packed { derate, openFlags, shortFlags } (crc8 body) := by
      rw [echo]
      simp [body, levelsEcho, byteOf]
    have complete : CompleteEcho (bytes ++ [b]) := layout ▸ completeEcho_levelsEcho packs.1
    rw [exec_echoReceived_good inFlight receiving complete echo (by rw [content, layout]; rfl) (by rw [layout]; rfl),
      layout, echoOutcome_levels content packs.1, PacksLevels.unpackLevels packs sixteen inRange]
  case service =>
    intro sent echoed body content low high echo
    have layout : bytes ++ [b] = serviceEcho x.node echoed (crc8 body) := echo
    have complete : CompleteEcho (bytes ++ [b]) := layout ▸ completeEcho_serviceEcho high low
    rw [exec_echoReceived_good inFlight receiving complete echo (by rw [content, layout]; rfl) (by rw [layout]; rfl),
      layout, echoOutcome_service high content]
  case wrong =>
    intro echo _ kind complete wrong
    have kindOf : x.content.kind = kind := by
      cases e : x.content <;> simp only [kind, e, BlockContent.kind]
    exact exec_echoReceived_bad inFlight receiving complete (kindOf ▸ wrong)

end Sys2Proof.Machine
end

section
/-! PROOFS. The completion of an exchange, and how its grant goes on (R117, R120 to R124, R126). -/

namespace Sys2Proof.Machine

/-! ## The outcome is judged and counted (R117) -/

/-- The state in which a grant goes on: the exchange has ended, its outcome has been judged, and a failure counted (R117). -/
def judgedOutcome (x : Exchange) (o : ExchangeOutcome) (s : State) : State :=
  countFailure x.port o (nodeOutcome x.node o { s with exchange := none })

theorem countFailure_only (port : Head) (o : ExchangeOutcome) (s : State) : OnlyCounters s (countFailure port o s) := by
  unfold countFailure
  split <;> rfl

/-- Judging and counting touch the node records, the fault list and the counters, and so nothing that decides how the grant
goes on but the records' states. -/
theorem judgedOutcome_eq (x : Exchange) (o : ExchangeOutcome) (s : State) :
    ∃ nodes faults faultOverflow counters,
      judgedOutcome x o s = { s with exchange := none, nodes, faults, faultOverflow, counters } := by
  have judged := nodeOutcome_only x.node o { s with exchange := none }
  refine ⟨(judgedOutcome x o s).nodes, (judgedOutcome x o s).faults, (judgedOutcome x o s).faultOverflow,
    (judgedOutcome x o s).counters, ?_⟩
  unfold judgedOutcome
  rw [countFailure_only, judged]

theorem completeExchange_head {s : State} {h : Head} (granted : s.grant = .head h) (x : Exchange) (o : ExchangeOutcome) :
    completeExchange x o s = continueTransfer h (judgedOutcome x o s) := by
  simp only [completeExchange, granted, judgedOutcome]

theorem completeExchange_pass {s : State} (granted : s.grant = .pass) (x : Exchange) (o : ExchangeOutcome) :
    completeExchange x o s = completePass o (judgedOutcome x o s) := by
  simp only [completeExchange, granted, judgedOutcome]

/-! ## A transfer goes on (R120, R122, R123, R124) -/

section
variable {h : Head} {s : State}

/-- The state after one more of a transfer's exchanges (R120). -/
def State.progressed (s : State) : State := { s with progress := s.progress + 1 }

theorem continueTransfer_complete (done : s.nodeCount h ≤ s.progress + 1) :
    continueTransfer h s = endTransfer h s.progressed :=
  if_pos done

theorem continueTransfer_truncated (more : s.progress + 1 < s.nodeCount h) (yields : mustYield h s.progressed = true) :
    continueTransfer h s = truncateTransfer h s.progressed :=
  (if_neg (Nat.not_le.2 more)).trans (if_pos yields)

theorem continueTransfer_sends (more : s.progress + 1 < s.nodeCount h) (keeps : mustYield h s.progressed = false) :
    continueTransfer h s = sendGroup h s.progressed :=
  (if_neg (Nat.not_le.2 more)).trans (if_neg (Bool.eq_false_iff.1 keeps))

theorem passWaiting_iff : s.passWaiting = true ↔ ∃ p, s.passThrough = some p ∧ p.inFlight = false := by
  unfold State.passWaiting
  split
  · rename_i p e
    simp [e]
  · rename_i e
    simp [e]

/-- A transfer yields when its hold budget is spent and another requester waits (R122). -/
theorem mustYield_iff :
    mustYield h s = true ↔ s.itemNat 1 4 ≤ s.micros - s.grantStart.getD s.micros ∧
      ((s.head h.other).staged ≠ none ∨ ∃ p, s.passThrough = some p ∧ p.inFlight = false) := by
  rw [mustYield, Bool.and_eq_true, Bool.or_eq_true, decide_eq_true_iff, Option.isSome_iff_ne_none, passWaiting_iff]

theorem endTransfer_eq :
    endTransfer h s =
      arbitrate { s.setHead h { s.head h with live := none, cursor := (s.head h).cursor } with grant := .none } := rfl

/-- A truncated transfer is counted, its live slot is idle, and its cursor stands at the first unsent group (R122, R123). -/
theorem truncateTransfer_eq :
    truncateTransfer h s =
      arbitrate { countEvent (.truncated h) (s.setHead h { s.head h with
        live := none, cursor := ((s.head h).cursor + s.progress) % s.nodeCount h }) with grant := .none } := by
  cases h <;> rfl

end

/-! ## A pass-through is answered (R126) -/

theorem completePass_eq {s : State} {f : LinkFrame} (held : s.handler = .serving f) (o : ExchangeOutcome) :
    completePass o s =
      arbitrate (answer f (passAnswer o).1 (passAnswer o).2 { s with grant := .none, passThrough := none }) := by
  rw [completePass, answerHeld_serving (s := { s with grant := .none, passThrough := none }) held]

/-- Settles O49: the grant goes on in the state after judging, which is the state before it but for the exchange, the node
records, the faults and the counters. -/
theorem completedExchangeMovesItsGrantOn : Obligations.CompletedExchangeMovesItsGrantOn := by
  unfold Obligations.CompletedExchangeMovesItsGrantOn
  intro x o s judged counted
  have goesOn : counted = judgedOutcome x o s := rfl
  obtain ⟨nodes, faults, overflow, counters, after⟩ := judgedOutcome_eq x o s
  rw [← goesOn] at after
  clear_value counted
  refine ⟨fun h granted => ?_, fun granted f held => ?_⟩
  · rw [completeExchange_head granted, ← goesOn]
    subst after
    refine ⟨fun complete => ?_, fun more yields => ?_, fun more keeps => ?_⟩
    · refine (continueTransfer_complete ?_).trans endTransfer_eq
      exact complete
    · refine (continueTransfer_truncated ?_ (mustYield_iff.2 ?_)).trans truncateTransfer_eq
      · exact more
      · exact yields
    · refine (continueTransfer_sends ?_ (Bool.eq_false_iff.2 (mt mustYield_iff.1 ?_))).trans rfl
      · exact more
      · exact keeps
  · rw [completeExchange_pass granted, ← goesOn, completePass_eq (s := counted) (by rw [after]; exact held)]
    refine ⟨?_, ?_⟩
    · rintro bytes rfl
      rfl
    · rintro rfl
      rfl

end Sys2Proof.Machine
end

section
/-! PROOFS. The judging of a node: its record under each outcome, and the faults of the outcome (R131 to R138). -/

namespace Sys2Proof.Machine

/-! ## Latching and the node records -/

theorem latchFault_setNode (kind : FaultKind) (subject : Nat) (now : Millis) (id : Nat) (r : NodeRecord) (s : State) :
    latchFault kind subject now (setNode id r s) = setNode id r (latchFault kind subject now s) := by
  unfold latchFault
  simp only [setNode_fields]
  split
  · rfl
  · split <;> rfl

@[simp] theorem latchIf_true (kind : FaultKind) (subject : Nat) (s : State) :
    latchIf true kind subject s = latchFault kind subject s.timeBase s := rfl

@[simp] theorem latchIf_false (kind : FaultKind) (subject : Nat) (s : State) : latchIf false kind subject s = s := rfl

/-- Latching neither reads nor writes the node records. -/
theorem latchIf_setNode (condition : Bool) (kind : FaultKind) (subject id : Nat) (r : NodeRecord) (s : State) :
    latchIf condition kind subject (setNode id r s) = setNode id r (latchIf condition kind subject s) := by
  cases condition with
  | false => rfl
  | true => exact latchFault_setNode kind subject s.timeBase id r s

theorem OnlyFaults.timeBase {s t : State} (only : OnlyFaults s t) : t.timeBase = s.timeBase := by
  rw [only]; rfl

/-- A record written after some faults have been latched, in the shape of the statement. -/
theorem OnlyFaults.setNode_eq {s t : State} (only : OnlyFaults s t) (id : Nat) (r : NodeRecord) :
    setNode id r t = { t with nodes := s.nodes.set (id - 1) r } := by
  have nodes : t.nodes = s.nodes := by rw [only]
  rw [setNode, nodes]

/-! ## String faults (R137, R138) -/

/-- The string faults of a good levels echo are latched, open before short (R137, R138). -/
def latchStrings (id : Nat) (e : LastEcho) (s : State) : State :=
  latchIf (decide (e.shortFlags ≠ 0)) .stringShort id (latchIf (decide (e.openFlags ≠ 0)) .stringOpen id s)

theorem latchStrings_only (id : Nat) (e : LastEcho) (s : State) : OnlyFaults s (latchStrings id e s) :=
  (latchIf_only _ _ _ _).trans (latchIf_only _ _ _ _)

theorem latchStrings_eq (id : Nat) (e : LastEcho) (s : State) :
    latchStrings id e s =
      let opened := if e.openFlags ≠ 0 then latchFault .stringOpen id s.timeBase s else s
      if e.shortFlags ≠ 0 then latchFault .stringShort id s.timeBase opened else opened := by
  have opened : latchIf (decide (e.openFlags ≠ 0)) .stringOpen id s =
      if e.openFlags ≠ 0 then latchFault .stringOpen id s.timeBase s else s := by
    simp only [latchIf, latch, decide_eq_true_eq]
  have base := (latchIf_only (decide (e.openFlags ≠ 0)) .stringOpen id s).timeBase
  rw [latchStrings, latchIf, latch, base, opened]
  simp only [decide_eq_true_eq]

/-! ## The echo compare (R131) -/

theorem differsBy_iff (tolerance a b : Nat) : differsBy tolerance a b = true ↔ b + tolerance < a ∨ a + tolerance < b := by
  rw [differsBy, Bool.or_eq_true, decide_eq_true_iff, decide_eq_true_iff, or_comm]

theorem echoMismatch_iff (tolerance : Nat) (sent echoed : List Nat) (derate : Byte) :
    echoMismatch tolerance sent echoed derate = true ↔
      ∃ k, k < 16 ∧
        (expectedLevel derate (sent.getD k 0) + tolerance < echoed.getD k 0 ∨
          echoed.getD k 0 + tolerance < expectedLevel derate (sent.getD k 0)) := by
  simp only [echoMismatch, List.any_eq_true, List.mem_range, differsBy_iff]

/-! ## The record under each outcome (R132 to R135, R137) -/

section
variable {limit : Nat} {r : NodeRecord}

theorem afterLevelsEcho_matching (e : LastEcho) :
    afterLevelsEcho limit false e r = { state := .ok, mismatchCount := 0, failCount := 0, lastEcho := some e } := rfl

theorem afterLevelsEcho_suspect (below : r.mismatchCount + 1 < limit) (e : LastEcho) :
    afterLevelsEcho limit true e r =
      { state := .suspect, mismatchCount := r.mismatchCount + 1, failCount := 0, lastEcho := some e } := by
  simp only [afterLevelsEcho, if_true, if_neg (Nat.not_le.2 below)]

theorem afterLevelsEcho_isolated (reached : limit ≤ r.mismatchCount + 1) (e : LastEcho) :
    afterLevelsEcho limit true e r =
      { state := .isolated, mismatchCount := r.mismatchCount + 1, failCount := 0, lastEcho := some e } := by
  simp only [afterLevelsEcho, if_true, if_pos reached]

theorem afterServiceEcho_ok (h : r.state = .unseen ∨ (r.state = .silent ∧ r.mismatchCount = 0)) :
    afterServiceEcho r = { r with state := .ok, failCount := 0 } := by
  rcases h with unseen | ⟨silent, clear⟩
  · simp only [afterServiceEcho, unseen]
  · simp only [afterServiceEcho, silent, clear, if_true]

theorem afterServiceEcho_suspect (silent : r.state = .silent) (counted : r.mismatchCount ≠ 0) :
    afterServiceEcho r = { r with state := .suspect, failCount := 0 } := by
  simp only [afterServiceEcho, silent, if_neg counted]

theorem afterServiceEcho_kept (h : r.state = .ok ∨ r.state = .suspect) : afterServiceEcho r = { r with failCount := 0 } := by
  rcases h with state | state <;> simp only [afterServiceEcho, state]

theorem afterFailure_below (below : min 255 (r.failCount + 1) < limit) :
    afterFailure limit r = { r with failCount := min 255 (r.failCount + 1) } := by
  simp only [afterFailure, if_neg (Nat.not_le.2 below)]

theorem afterFailure_reached (reached : limit ≤ min 255 (r.failCount + 1)) :
    afterFailure limit r = { r with state := .silent, failCount := min 255 (r.failCount + 1) } := by
  simp only [afterFailure, if_pos reached]

end

/-! ## The Node Supervisor takes an outcome (R130, R136, R138) -/

section
variable {id : Nat} {s : State}

theorem nodeOutcome_isolated (isolated : (s.node id).state = .isolated) (o : ExchangeOutcome) : nodeOutcome id o s = s :=
  if_pos isolated

theorem nodeOutcome_goodLevels (judged : (s.node id).state ≠ .isolated) (sent echoed : List Nat) (e : LastEcho)
    {r : NodeRecord}
    (next : afterLevelsEcho (s.itemNat 1 6) (echoMismatch (s.itemNat 1 5) sent echoed e.derate) e (s.node id) = r) :
    nodeOutcome id (.goodLevels sent echoed e) s =
      setNode id r (latchIf (decide (r.state = .isolated)) .nodeIsolated id (latchStrings id e s)) := by
  simp only [nodeOutcome, if_neg judged, next, latchIf_setNode, latchStrings]

theorem nodeOutcome_goodService (judged : (s.node id).state ≠ .isolated) (bytes : List Byte) {r : NodeRecord}
    (next : afterServiceEcho (s.node id) = r) : nodeOutcome id (.goodService bytes) s = setNode id r s := by
  simp only [nodeOutcome, if_neg judged, next]

theorem nodeOutcome_failed (judged : (s.node id).state ≠ .isolated) {r : NodeRecord}
    (next : afterFailure (s.itemNat 1 7) (s.node id) = r) :
    nodeOutcome id .failed s =
      setNode id r (latchIf (decide ((s.node id).state ≠ .silent) && decide (r.state = .silent)) .nodeSilent id s) := by
  simp only [nodeOutcome, if_neg judged, next, latchIf_setNode]

/-- A levels echo that isolates no node latches its string faults alone (R132, R133, R138). -/
theorem nodeOutcome_goodLevels_stays (judged : (s.node id).state ≠ .isolated) (sent echoed : List Nat) (e : LastEcho)
    {r : NodeRecord}
    (next : afterLevelsEcho (s.itemNat 1 6) (echoMismatch (s.itemNat 1 5) sent echoed e.derate) e (s.node id) = r)
    (stays : r.state ≠ .isolated) :
    nodeOutcome id (.goodLevels sent echoed e) s = { latchStrings id e s with nodes := s.nodes.set (id - 1) r } := by
  rw [nodeOutcome_goodLevels judged sent echoed e next, decide_eq_false stays, latchIf_false]
  exact (latchStrings_only id e s).setNode_eq id r

/-- A levels echo that isolates its node latches NODE_ISOLATED after its string faults (R133, R138). -/
theorem nodeOutcome_goodLevels_isolates (judged : (s.node id).state ≠ .isolated) (sent echoed : List Nat) (e : LastEcho)
    {r : NodeRecord}
    (next : afterLevelsEcho (s.itemNat 1 6) (echoMismatch (s.itemNat 1 5) sent echoed e.derate) e (s.node id) = r)
    (isolates : r.state = .isolated) :
    nodeOutcome id (.goodLevels sent echoed e) s =
      { latchFault .nodeIsolated id s.timeBase (latchStrings id e s) with nodes := s.nodes.set (id - 1) r } := by
  have strings := latchStrings_only id e s
  rw [nodeOutcome_goodLevels judged sent echoed e next, decide_eq_true isolates, latchIf_true, strings.timeBase]
  exact (strings.trans (latchFault_only _ _ _ _)).setNode_eq id r

/-- A failure that does not enter SILENT latches nothing (R134). -/
theorem nodeOutcome_failed_quiet (judged : (s.node id).state ≠ .isolated) {r : NodeRecord}
    (next : afterFailure (s.itemNat 1 7) (s.node id) = r) (quiet : r.state = (s.node id).state) :
    nodeOutcome id .failed s = setNode id r s := by
  have entersNot : (decide ((s.node id).state ≠ .silent) && decide (r.state = .silent)) = false := by
    rw [quiet, decide_not, Bool.not_and_self]
  rw [nodeOutcome_failed judged next, entersNot, latchIf_false]

/-- The failure that enters SILENT latches NODE_SILENT (R134). -/
theorem nodeOutcome_failed_silences (judged : (s.node id).state ≠ .isolated) {r : NodeRecord}
    (next : afterFailure (s.itemNat 1 7) (s.node id) = r) (heard : (s.node id).state ≠ .silent) (silent : r.state = .silent) :
    nodeOutcome id .failed s =
      { latchFault .nodeSilent id s.timeBase s with nodes := s.nodes.set (id - 1) r } := by
  rw [nodeOutcome_failed judged next, decide_eq_true heard, decide_eq_true silent, Bool.and_self, latchIf_true]
  exact (latchFault_only _ _ _ _).setNode_eq id r

end

/-- Settles O50, outcome by outcome: the record after each is a row of chapter 7's table, and latching commutes with writing
the record. -/
theorem nodeRecordFollowsItsOutcomes : Obligations.NodeRecordFollowsItsOutcomes := by
  unfold Obligations.NodeRecordFollowsItsOutcomes
  intro id o s _ _ _ r t kept flagged
  have strings (e : LastEcho) : flagged e = latchStrings id e s := (latchStrings_eq id e s).symm
  refine ⟨fun isolated => nodeOutcome_isolated isolated o, fun judged => ⟨?levels, ?service, ?failure⟩⟩
  case levels =>
    rintro sent echoed e rfl expected mismatch
    have compare : echoMismatch (s.itemNat 1 5) sent echoed e.derate = true ↔ mismatch := echoMismatch_iff _ _ _ _
    rw [strings]
    refine ⟨fun matching => ?_, fun differing below => ?_, fun differing reached => ?_⟩
    · have agrees := Bool.eq_false_iff.2 (mt compare.1 matching)
      exact nodeOutcome_goodLevels_stays judged sent echoed e (agrees ▸ afterLevelsEcho_matching e) nofun
    · have differs := compare.2 differing
      exact nodeOutcome_goodLevels_stays judged sent echoed e (differs ▸ afterLevelsEcho_suspect below e) nofun
    · have differs := compare.2 differing
      exact nodeOutcome_goodLevels_isolates judged sent echoed e (differs ▸ afterLevelsEcho_isolated reached e) rfl
  case service =>
    rintro bytes rfl
    exact ⟨fun answers => nodeOutcome_goodService judged bytes (afterServiceEcho_ok answers),
      fun silent counted => nodeOutcome_goodService judged bytes (afterServiceEcho_suspect silent counted),
      fun stays => nodeOutcome_goodService judged bytes (afterServiceEcho_kept stays)⟩
  case failure =>
    rintro rfl failures
    refine ⟨fun below => ?_, fun reached heard => ?_, fun reached silent => ?_⟩
    · exact nodeOutcome_failed_quiet judged (afterFailure_below below) rfl
    · exact nodeOutcome_failed_silences judged (afterFailure_reached reached) heard rfl
    · have still : afterFailure (s.itemNat 1 7) r = { r with failCount := failures } := by
        rw [afterFailure_reached reached, ← silent]
      exact nodeOutcome_failed_quiet judged still rfl

end Sys2Proof.Machine
end

section
/-! PROOFS. The calibration items with their ranges and defaults (R16, R45, R46, R175), and RESET (R142). -/

namespace Sys2Proof.Machine

/-! ## The profile tables (R16) -/

/-- Three runs give a column the level of the run that it falls in. -/
theorem flatMap_three_runs {a b : Nat} (ordered : a ≤ b) (within : b ≤ 24) (outer middle inner : Int) :
    ([(a, outer), (b - a, middle), (24 - b, inner)].flatMap fun run => List.replicate run.1 run.2) =
      (List.range 24).map fun c => if c < a then outer else if c < b then middle else inner := by
  have length : a + (b - a + (24 - b)) = 24 := by omega
  apply List.ext_getElem
  · simpa using length
  · intro c _ _
    simp only [List.flatMap_cons, List.flatMap_nil, List.append_nil, List.getElem_append, List.getElem_replicate,
      List.length_replicate, List.getElem_map, List.getElem_range]
    grind

/-- Columns that are symmetric about the optical axis have the level of their distance from the nearer edge. -/
theorem map_range_append_reverse (level : Nat → Int) :
    (List.range 24).map level ++ ((List.range 24).map level).reverse =
      (List.range 48).map fun c => level (min c (47 - c)) := rfl

/-- The ranges and defaults of a profile table (R15, R16). -/
theorem profileSpec_three_runs {a b : Nat} (ordered : a ≤ b) (within : b ≤ 24) (outer middle inner : Int) :
    (profileSpec (symmetricColumns [(a, outer), (b - a, middle), (24 - b, inner)])).map
        (fun item => (item.lo, item.hi, item.dflt)) =
      ((List.range 48).map fun c =>
        ((0 : Int), (1023 : Int),
          if min c (47 - c) < a then outer else if min c (47 - c) < b then middle else inner)) ++
        [(0, 256, 256), (0, 256, 256), (0, 256, 192), (0, 256, 128)] := by
  have columns := flatMap_three_runs ordered within outer middle inner
  rw [profileSpec, symmetricColumns, columns, map_range_append_reverse, List.map_append, List.map_map, List.map_map]
  rfl

/-! ## RESET (R142) -/

theorem exec_reset (strap : Bool) (s : State) :
    exec (.reset strap) s =
      .next { State.reset with trafficSideHigh := strap, pending := s.pending, ties := s.ties } := rfl

/-- The time base starts from 0 (R21). -/
theorem timeBase_of_micros_zero {s : State} (h : s.micros = 0) : s.timeBase = 0 := by
  rw [State.timeBase, h]
  rfl

theorem head_of_rest {s : State} (left : s.left = HeadState.rest) (right : s.right = HeadState.rest) (h : Head) :
    s.head h = HeadState.rest := by
  cases h
  · exact left
  · exact right

/-- Settles O4: the profile tables by their runs, the other tables item by item; then the blocks of `State.reset`. -/
theorem resetLeavesTheResetValues : Obligations.ResetLeavesTheResetValues := by
  unfold Obligations.ResetLeavesTheResetValues
  constructor
  · intro profile
    have town : townSpec.map (fun item => (item.lo, item.hi, item.dflt)) = profile 6 12 64 256 512 :=
      profileSpec_three_runs (a := 6) (b := 12) (by decide) (by decide) 64 256 512
    have country : countrySpec.map (fun item => (item.lo, item.hi, item.dflt)) = profile 6 12 128 512 1023 :=
      profileSpec_three_runs (a := 6) (b := 12) (by decide) (by decide) 128 512 1023
    have motorway : motorwaySpec.map (fun item => (item.lo, item.hi, item.dflt)) = profile 8 16 192 640 1023 :=
      profileSpec_three_runs (a := 8) (b := 16) (by decide) (by decide) 192 640 1023
    rw [← town, ← country, ← motorway]
    rfl
  · intro strap s
    exact ⟨_, exec_reset strap s, timeBase_of_micros_zero rfl, rfl, rfl, ⟨rfl, rfl, rfl, rfl, rfl, rfl⟩, rfl,
      ⟨rfl, rfl, rfl, rfl⟩, rfl, rfl, rfl, head_of_rest rfl rfl, ⟨rfl, rfl, rfl, rfl, rfl⟩, rfl, rfl, rfl,
      ⟨rfl, rfl, rfl⟩, rfl, rfl, rfl, rfl⟩

end Sys2Proof.Machine
end

section
/-! PROOFS. Autoload (R142, R175 to R178): the judging of a whole image, group by group, and the end of the read without one. -/

namespace Sys2Proof.Machine

/-! ## One group of the image (R175, R176, R178) -/

/-- A group with guard 01 that is sound: it is loaded (R178). -/
def groupLoaded (image : List Byte) (g : Nat) : Bool := decide (guardPair image g = 1) && groupSound image g

/-- A group with guard 01 that is not sound: it is refused (R178). -/
def groupRefused (image : List Byte) (g : Nat) : Bool := decide (guardPair image g = 1) && !groupSound image g

theorem groupLoaded_iff {image : List Byte} {g : Nat} :
    groupLoaded image g = true ↔ guardPair image g = 1 ∧ groupSound image g = true := by
  simp [groupLoaded]

theorem groupRefused_iff {image : List Byte} {g : Nat} :
    groupRefused image g = true ↔ guardPair image g = 1 ∧ ¬ groupSound image g = true := by
  simp [groupRefused]

/-- The two bits of a bit string that stand `2 * k` above its lowest. -/
theorem extractLsb'_two_eq_one_iff (v : BitVec w) (k : Nat) : v.extractLsb' (2 * k) 2 = 1 ↔ v.toNat / 4 ^ k % 4 = 1 := by
  rw [← BitVec.toNat_inj, BitVec.extractLsb'_toNat, Nat.shiftRight_eq_div_pow, Nat.pow_mul]
  rfl

/-- The guard pairs stand in the image's first two bytes, group 0 first (R176). -/
theorem guardPair_eq_one_iff (image : List Byte) {g : Nat} (h : g < 8) :
    guardPair image g = 1 ↔ (byteAt image 0 ++ byteAt image 1 : BitVec 16).extractLsb' (14 - 2 * g) 2 = 1 := by
  have place : 14 - 2 * g = 2 * (7 - g) := by omega
  rw [place, extractLsb'_two_eq_one_iff]
  rfl

/-- The value of an item of a group in the image (R176). -/
def groupItem (image : List Byte) (g i : Nat) : Int :=
  itemValue g i (byteAt image (groupOffset g + 2 * i)) (byteAt image (groupOffset g + 2 * i + 1))

theorem groupValues_eq (image : List Byte) (g : Nat) :
    groupValues image g = (List.range (tableSpec g).length).map (groupItem image g) := rfl

/-- The word of an item is two's complement in the first two items of table 0 and unsigned in all others (R175). -/
theorem groupItem_eq (image : List Byte) (g i : Nat) :
    groupItem image g i =
      let word : BitVec 16 := byteAt image (groupOffset g + 2 * i) ++ byteAt image (groupOffset g + 2 * i + 1)
      if g = 0 ∧ i < 2 then word.toInt else (word.toNat : Int) := by
  simp only [groupItem, itemValue, itemSigned, Bool.and_eq_true, beq_iff_eq, decide_eq_true_eq]
  rfl

/-- Values given by their places are admitted when each lies in the range of the item at its place (R175). -/
theorem valuesAdmitted_map_range (specs : List ItemSpec) (f : Nat → Int) :
    valuesAdmitted specs ((List.range specs.length).map f) = true ↔
      ∀ i < specs.length, ∃ item, specs[i]? = some item ∧ item.lo ≤ f i ∧ f i ≤ item.hi := by
  induction specs generalizing f with
  | nil => exact ⟨fun _ => nofun, fun _ => rfl⟩
  | cons spec specs ih =>
    have later := ih (f ∘ Nat.succ)
    rw [List.length_cons, List.range_succ_eq_map, List.map_cons, List.map_map, valuesAdmitted, Bool.and_eq_true, later,
      ItemSpec.admits, Bool.and_eq_true, decide_eq_true_eq, decide_eq_true_eq]
    constructor
    · rintro ⟨first, rest⟩ i hi
      cases i with
      | zero => exact ⟨spec, rfl, first⟩
      | succ i => exact rest i (Nat.lt_of_succ_lt_succ hi)
    · intro all
      obtain ⟨item, same, first⟩ := all 0 (Nat.succ_pos _)
      cases same
      exact ⟨first, fun i hi => all (i + 1) (Nat.succ_lt_succ hi)⟩

section
variable {image : List Byte} {g : Nat} {s : State}

theorem judgeGroup_unguarded (unguarded : guardPair image g ≠ 1) : judgeGroup image s g = s := if_pos unguarded

theorem judgeGroup_loaded (loaded : groupLoaded image g = true) :
    judgeGroup image s g = { s with tables := s.tables.set g (groupValues image g) } := by
  obtain ⟨guarded, sound⟩ := groupLoaded_iff.1 loaded
  rw [judgeGroup, if_neg (not_not_intro guarded), if_pos sound]

theorem judgeGroup_refused (refused : groupRefused image g = true) :
    judgeGroup image s g = latchFault .calGroupDefaulted g s.timeBase s := by
  obtain ⟨guarded, unsound⟩ := groupRefused_iff.1 refused
  rw [judgeGroup, if_neg (not_not_intro guarded), if_neg unsound, latch]

end

/-- A group is sound when its CRC-8 matches and every item lies in its range (R178). -/
theorem groupSound_iff (image : List Byte) (g : Nat) :
    groupSound image g = true ↔
      crc8 (groupItemBytes image g) = groupCrc image g ∧
        ∀ i < (tableSpec g).length, ∃ item, (tableSpec g)[i]? = some item ∧
          item.lo ≤ groupItem image g i ∧ groupItem image g i ≤ item.hi := by
  rw [groupSound, Bool.and_eq_true, beq_iff_eq, groupValues_eq, valuesAdmitted_map_range]

/-- The number of items of each table (R175). -/
theorem length_tableSpec {g : Nat} (h : g < 8) : [7, 8, 10, 22, 52, 52, 52, 13].getD g 0 = (tableSpec g).length := by
  decide +revert

/-! ## The groups in their order (R178) -/

/-- CAL_GROUP_DEFAULTED is latched for groups in their order. -/
def latchGroups (groups : List Nat) (now : Millis) (s : State) : State :=
  groups.foldl (fun u g => latchFault .calGroupDefaulted g now u) s

/-- Groups of the image replace their tables. -/
def loadGroups (image : List Byte) (groups : List Nat) (tables : List (List Int)) : List (List Int) :=
  groups.foldl (fun tables g => tables.set g (groupValues image g)) tables

theorem latchGroups_cons (g : Nat) (groups : List Nat) (now : Millis) (s : State) :
    latchGroups (g :: groups) now s = latchGroups groups now (latchFault .calGroupDefaulted g now s) := rfl

/-- The latches depend on the fault list and its flag alone. -/
theorem latchGroups_congr (groups : List Nat) (now : Millis) {s t : State} (list : t.faults = s.faults)
    (flag : t.faultOverflow = s.faultOverflow) :
    (latchGroups groups now t).faults = (latchGroups groups now s).faults ∧
      (latchGroups groups now t).faultOverflow = (latchGroups groups now s).faultOverflow := by
  induction groups generalizing s t with
  | nil => exact ⟨list, flag⟩
  | cons g groups ih =>
    obtain ⟨list, flag⟩ := latchFault_congr .calGroupDefaulted g now list flag
    exact ih list flag

theorem length_loadGroups (image : List Byte) (groups : List Nat) (tables : List (List Int)) :
    (loadGroups image groups tables).length = tables.length := by
  induction groups generalizing tables with
  | nil => rfl
  | cons g groups ih => exact (ih _).trans List.length_set

theorem getD_loadGroups_of_notMem (image : List Byte) {groups : List Nat} (tables : List (List Int)) {g : Nat}
    (h : g ∉ groups) : (loadGroups image groups tables).getD g [] = tables.getD g [] := by
  induction groups generalizing tables with
  | nil => rfl
  | cons k groups ih =>
    obtain ⟨other, later⟩ := not_or.1 (mt List.mem_cons.2 h)
    have kept : (tables.set k (groupValues image k)).getD g [] = tables.getD g [] := by
      rw [List.getD_eq_getElem?_getD, List.getElem?_set_ne (Ne.symm other), List.getD_eq_getElem?_getD]
    exact (ih _ later).trans kept

theorem getD_loadGroups_of_mem (image : List Byte) {groups : List Nat} {tables : List (List Int)} {g : Nat}
    (h : g ∈ groups) (table : g < tables.length) : (loadGroups image groups tables).getD g [] = groupValues image g := by
  induction groups generalizing tables with
  | nil => cases h
  | cons k groups ih =>
    by_cases later : g ∈ groups
    · exact ih later (by rwa [List.length_set])
    · obtain rfl : g = k := (List.mem_cons.1 h).resolve_right later
      have set : (tables.set g (groupValues image g)).getD g [] = groupValues image g := by
        rw [List.getD_eq_getElem?_getD, List.getElem?_set_self table]
        rfl
      exact (getD_loadGroups_of_notMem image _ later).trans set

/-- Judging groups in their order loads those that are loaded and latches those that are refused (R178). -/
theorem judgeGroups_eq (image : List Byte) (groups : List Nat) (s : State) :
    groups.foldl (judgeGroup image) s =
      { s with
        tables := loadGroups image (groups.filter (groupLoaded image)) s.tables
        faults := (latchGroups (groups.filter (groupRefused image)) s.timeBase s).faults
        faultOverflow := (latchGroups (groups.filter (groupRefused image)) s.timeBase s).faultOverflow } := by
  induction groups generalizing s with
  | nil => rfl
  | cons g groups ih =>
    rw [List.foldl_cons, ih]
    by_cases guarded : guardPair image g = 1
    · by_cases sound : groupSound image g = true
      · have loaded := groupLoaded_iff.2 ⟨guarded, sound⟩
        have notRefused : ¬ groupRefused image g = true := fun refused => (groupRefused_iff.1 refused).2 sound
        obtain ⟨list, flag⟩ := latchGroups_congr (groups.filter (groupRefused image)) s.timeBase
          (t := { s with tables := s.tables.set g (groupValues image g) }) (s := s) rfl rfl
        rw [judgeGroup_loaded loaded, List.filter_cons_of_pos loaded, List.filter_cons_of_neg notRefused, ← list, ← flag]
        rfl
      · have refused := groupRefused_iff.2 ⟨guarded, sound⟩
        have notLoaded : ¬ groupLoaded image g = true := fun loaded => sound (groupLoaded_iff.1 loaded).2
        have only := latchFault_only .calGroupDefaulted g s.timeBase s
        rw [judgeGroup_refused refused, List.filter_cons_of_neg notLoaded, List.filter_cons_of_pos refused,
          latchGroups_cons, only.timeBase]
        unfold OnlyFaults at only
        rw [only]
    · have notLoaded : ¬ groupLoaded image g = true := fun loaded => guarded (groupLoaded_iff.1 loaded).1
      have notRefused : ¬ groupRefused image g = true := fun refused => guarded (groupRefused_iff.1 refused).1
      rw [judgeGroup_unguarded guarded, List.filter_cons_of_neg notLoaded, List.filter_cons_of_neg notRefused]

/-- A whole image leaves everything but the tables, the fault list and the mode alone (R142, R177, R178). -/
theorem loadImage_eq (image : List Byte) (s : State) :
    loadImage image s =
      { s with
        mode := .standby, autoload := none, holdingBuffer := image
        tables := loadGroups image ((List.range 8).filter (groupLoaded image)) s.tables
        faults := (latchGroups ((List.range 8).filter (groupRefused image)) s.timeBase s).faults
        faultOverflow := (latchGroups ((List.range 8).filter (groupRefused image)) s.timeBase s).faultOverflow } := by
  obtain ⟨list, flag⟩ := latchGroups_congr ((List.range 8).filter (groupRefused image)) s.timeBase
    (t := { s with holdingBuffer := image }) (s := s) rfl rfl
  rw [loadImage, judgeGroups_eq, ← list, ← flag]
  rfl

/-- The end of the read of a whole image (R177). -/
theorem finishAutoload_whole {image : List Byte} {s : State} (reading : s.autoload = some AutoloadRead.begun)
    (inTime : s.micros ≤ autoloadLimit) (whole : image.length = AutoloadRead.begun.length) :
    finishAutoload image s = loadImage image s := by
  simp only [finishAutoload, reading, if_neg (Nat.not_lt.2 inTime), if_pos whole]

/-- Settles O5: the image's groups are those of the spec, each judged as R178 says; the groups refused are the ones latched,
in their order. -/
theorem wholeImageIsJudgedGroupByGroup : Obligations.WholeImageIsJudgedGroupByGroup := by
  unfold Obligations.WholeImageIsJudgedGroupByGroup
  intro image s reading inTime whole eight guards guarded offset count value sound
  have count_eq : ∀ g < 8, count g = (tableSpec g).length := fun g hg => length_tableSpec hg
  have guarded_iff : ∀ g < 8, (guarded g ↔ guardPair image g = 1) := fun g hg => (guardPair_eq_one_iff image hg).symm
  have value_eq : ∀ g, value g = groupItem image g := fun g => funext fun i => (groupItem_eq image g i).symm
  have sound_iff : ∀ g < 8, (sound g ↔ groupSound image g = true) := fun g hg => by
    simp only [sound, count_eq g hg, value_eq, groupSound_iff]
    rfl
  have values : ∀ g < 8, (List.range (count g)).map (value g) = groupValues image g := fun g hg => by
    rw [count_eq g hg, value_eq, groupValues_eq]
  have loaded_iff : ∀ g < 8, (g ∈ (List.range 8).filter (groupLoaded image) ↔ guarded g ∧ sound g) := fun g hg => by
    rw [List.mem_filter, List.mem_range, groupLoaded_iff, guarded_iff g hg, sound_iff g hg, and_iff_right hg]
  have refused_iff : ∀ g, g ∈ (List.range 8).filter (groupRefused image) ↔ g < 8 ∧ guarded g ∧ ¬ sound g := fun g => by
    rw [List.mem_filter, List.mem_range, groupRefused_iff]
    exact and_congr_right fun hg => by rw [guarded_iff g hg, sound_iff g hg]
  have taken : exec (.autoloadReadComplete image) s = .next (loadImage image s) :=
    congrArg _ (finishAutoload_whole reading inTime whole)
  rw [loadImage_eq] at taken
  refine ⟨_, taken, fun g hg => ⟨fun hguarded hsound => ?_, fun unloaded => ?_⟩, (length_loadGroups _ _ _).trans eight,
    ⟨_, List.pairwise_lt_range.filter _, refused_iff, rfl, rfl⟩, rfl⟩
  · have table : g < s.tables.length := by omega
    rw [values g hg]
    exact getD_loadGroups_of_mem image ((loaded_iff g hg).2 ⟨hguarded, hsound⟩) table
  · exact getD_loadGroups_of_notMem image _ (mt (loaded_iff g hg).1 unloaded)

/-! ## The read ends without the image (R177) -/

/-- CAL_ABSENT is latched and every table is at its defaults (R142, R177). -/
theorem failAutoload_eq (s : State) :
    failAutoload s =
      { s with
        mode := .standby, autoload := none, holdingBuffer := [], tables := defaultTables
        faults := (latchFault .calAbsent 0 s.timeBase s).faults
        faultOverflow := (latchFault .calAbsent 0 s.timeBase s).faultOverflow } := by
  have latched := latchFault_eq .calAbsent 0 s.timeBase (s := s)
    (t := { s with holdingBuffer := [], tables := defaultTables }) rfl rfl
  have same : failAutoload s =
      completeAutoload (latchFault .calAbsent 0 s.timeBase { s with holdingBuffer := [], tables := defaultTables }) := rfl
  rw [same, latched]
  rfl

/-- The same after time has passed to a microsecond, from the fault list of before. -/
theorem failAutoload_at (s : State) (micros : Nat) :
    failAutoload { s with micros } =
      { s with
        mode := .standby, autoload := none, holdingBuffer := [], tables := defaultTables, micros
        faults := (latchFault .calAbsent 0 ({ s with micros } : State).timeBase s).faults
        faultOverflow := (latchFault .calAbsent 0 ({ s with micros } : State).timeBase s).faultOverflow } := by
  obtain ⟨list, flag⟩ := latchFault_congr .calAbsent 0 ({ s with micros } : State).timeBase (t := { s with micros })
    (s := s) rfl rfl
  rw [failAutoload_eq, list, flag]

section
variable {s : State}

theorem finishAutoload_late (reading : s.autoload ≠ none) (late : autoloadLimit < s.micros) (image : List Byte) :
    finishAutoload image s = failAutoload s := by
  obtain ⟨read, reading⟩ := Option.ne_none_iff_exists'.1 reading
  simp only [finishAutoload, reading, if_pos late]

theorem missAcknowledge_reading (reading : s.autoload ≠ none) : missAcknowledge s = failAutoload s := by
  obtain ⟨read, reading⟩ := Option.ne_none_iff_exists'.1 reading
  simp only [missAcknowledge, reading]

theorem causeAt_autoloadTimeout (reading : s.autoload ≠ none) : causeAt .autoloadTimeout s = some autoloadLimit := by
  obtain ⟨read, reading⟩ := Option.ne_none_iff_exists'.1 reading
  simp only [causeAt, reading, Option.map_some]

/-- With no read in flight an image is none that is awaited (log 7). -/
theorem finishAutoload_idle (idle : s.autoload = none) (image : List Byte) : finishAutoload image s = s := by
  simp only [finishAutoload, idle]

theorem missAcknowledge_idle (idle : s.autoload = none) : missAcknowledge s = s := by
  simp only [missAcknowledge, idle]

end

/-- Settles O6: each of the three ends is `failAutoload` at its microsecond. -/
theorem autoloadWithoutImageLeavesDefaults : Obligations.AutoloadWithoutImageLeavesDefaults := by
  unfold Obligations.AutoloadWithoutImageLeavesDefaults
  intro s ended
  have ended_of : ∀ c micros, exec c s = .next (failAutoload { s with micros }) → ended c micros := by
    intro c micros taken
    rw [failAutoload_at] at taken
    exact ⟨_, taken, rfl, ⟨rfl, rfl⟩, rfl⟩
  refine ⟨fun reading => ⟨?missed, fun image late => ?late, fun first => ?timeout⟩, fun idle => ⟨fun image => ?_, ?_, ?_⟩⟩
  case missed => exact ended_of _ _ (congrArg _ (missAcknowledge_reading reading))
  case late => exact ended_of _ _ (congrArg _ (finishAutoload_late reading late image))
  case timeout => exact ended_of _ _ (exec_at (causeAt_autoloadTimeout reading) first)
  · exact congrArg _ (finishAutoload_idle idle image)
  · exact congrArg _ (missAcknowledge_idle idle)
  · exact exec_without (by decide) (congrArg (Option.map fun _ => autoloadLimit) idle)

end Sys2Proof.Machine
end

section
/-! PROOFS. MODE STANDBY (R145, R154) and the consistency check (R146). -/

namespace Sys2Proof.Machine

/-! ## MODE (R145) -/

/-- A MODE with one target byte taken outside START acts by its target (R145). -/
theorem serveMode_standby {f : LinkFrame} {s : State} (target : f.payload = [0]) (outside : s.mode ≠ .start) :
    serveMode f s = modeToStandby f s := by
  simp only [serveMode, target, List.length_singleton, ne_eq, not_true_eq_false, if_false, if_neg outside]
  rfl

theorem modeToStandby_standby {s : State} (h : s.mode = .standby) (f : LinkFrame) :
    modeToStandby f s = answer f .ok [] s := by
  simp only [modeToStandby, h]

theorem modeToStandby_running {s : State} (h : s.mode = .active ∨ s.mode = .safe ∨ s.mode = .direct) (f : LinkFrame) :
    modeToStandby f s = answer f .ok [] (teardown s) := by
  rcases h with h | h | h <;> simp only [modeToStandby, h]

theorem teardownValues_teardown (s : State) : TeardownValues (teardown s) :=
  ⟨rfl, rfl, rfl, rfl, rfl, rfl, rfl, rfl, rfl, rfl, rfl, rfl, rfl, rfl, rfl, rfl, rfl, rfl⟩

/-- Settles O25: the request is served at once, and acts by the mode. -/
theorem modeStandbyTearsDown : Obligations.ModeStandbyTearsDown := by
  unfold Obligations.ModeStandbyTearsDown
  intro tag s ready
  let request : LinkFrame := { type := 4, tag, payload := [0], receipt := s.timeBase }
  have taken (outside : s.mode ≠ .start) : exec (.modeStandby tag) s = .next (modeToStandby request s) := by
    rw [exec_request rfl, request_ready ready, serve_mode rfl, serveMode_standby rfl outside]
  refine ⟨fun standby => ?_, fun running => ?_⟩
  · have outside : s.mode ≠ .start := by simp [standby]
    rw [taken outside, modeToStandby_standby standby]
    exact ⟨_, rfl, answer_replied _ _ _ _ _ _ _, rfl⟩
  · have outside : s.mode ≠ .start := by rcases running with h | h | h <;> simp [h]
    rw [taken outside, modeToStandby_running running]
    exact ⟨_, rfl, answer_replied _ _ _ _ _ _ _, teardownValues_teardown s, rfl, rfl, rfl, rfl, rfl⟩

/-! ## The consistency check (R146) -/

/-- A condition of the check and one of the spec agree in what they ask and in what their failure reports. -/
def Condition.Renders (c : Condition) (d : Prop × Nat × Nat) : Prop :=
  (c.holds = true ↔ d.1) ∧ c.table = d.2.1 ∧ c.item = d.2.2

/-- The conditions of the check render those of the spec one by one, in their order. -/
inductive AllRender : List Condition → List (Prop × Nat × Nat) → Prop
  | nil : AllRender [] []
  | cons {c : Condition} {d : Prop × Nat × Nat} {cs : List Condition} {ds : List (Prop × Nat × Nat)}
      (first : c.Renders d) (rest : AllRender cs ds) : AllRender (c :: cs) (d :: ds)

/-- The search for a condition that fails finds none exactly when all hold. -/
theorem find?_fails_eq_none_iff {cs : List Condition} {ds : List (Prop × Nat × Nat)}
    (rendered : AllRender cs ds) :
    cs.find? (fun c => !c.holds) = none ↔ ∀ d ∈ ds, d.1 := by
  induction rendered with
  | nil => exact ⟨fun _ => nofun, fun _ => rfl⟩
  | @cons c d cs ds same _ ih =>
    obtain ⟨holds, -, -⟩ := same
    rw [List.forall_mem_cons, ← holds, ← ih]
    cases h : c.holds <;> simp [h]

/-- The condition that the search finds fails, and those before it hold. -/
theorem exists_split_of_find?_fails {cs : List Condition} {ds : List (Prop × Nat × Nat)}
    (rendered : AllRender cs ds) {c : Condition} (found : cs.find? (fun c => !c.holds) = some c) :
    ∃ before d after, ds = before ++ d :: after ∧ (∀ b ∈ before, b.1) ∧ ¬ d.1 ∧ c.table = d.2.1 ∧ c.item = d.2.2 := by
  induction rendered with
  | nil => cases found
  | @cons first d cs ds same _ ih =>
    obtain ⟨holds, table, item⟩ := same
    by_cases h : first.holds = true
    · rw [List.find?_cons_of_neg (by simp [h])] at found
      obtain ⟨before, e, after, rfl, earlier, rest⟩ := ih found
      exact ⟨d :: before, e, after, rfl, List.forall_mem_cons.2 ⟨holds.1 h, earlier⟩, rest⟩
    · rw [List.find?_cons_of_pos (by simp [h])] at found
      cases found
      exact ⟨[], d, ds, rfl, nofun, mt holds.2 h, table, item⟩

/-- A head is absent when its first and last node ids are both 0 (R10). -/
def State.absent (s : State) (h : Head) : Prop := s.firstNode h = 0 ∧ s.lastNode h = 0

section
variable {s : State} {h : Head}

theorem present_iff_not_absent : s.present h = true ↔ ¬ s.absent h := present_iff

theorem not_present_iff_absent : (!s.present h) = true ↔ s.absent h := by
  rw [Bool.not_eq_true', ← Bool.not_eq_true, present_iff_not_absent, Classical.not_not]

theorem firstFits_iff : s.firstFits h = true ↔ s.absent h ∨ 1 ≤ s.firstNode h := by
  rw [State.firstFits, Bool.or_eq_true, not_present_iff_absent, decide_eq_true_eq]

theorem lastFits_iff :
    s.lastFits h = true ↔ s.absent h ∨ (s.firstNode h ≤ s.lastNode h ∧ s.lastNode h - s.firstNode h + 1 ≤ 12) := by
  rw [State.lastFits, Bool.or_eq_true, not_present_iff_absent, Bool.and_eq_true, decide_eq_true_eq, decide_eq_true_eq]

/-- Two ranges have no number in common when the lower of their ends lies below the higher of their beginnings. -/
theorem min_lt_max_iff_disjoint (a b c d : Int) : min b d < max a c ↔ ¬ ∃ n, a ≤ n ∧ n ≤ b ∧ c ≤ n ∧ n ≤ d := by
  constructor
  · rintro apart ⟨n, hn⟩
    omega
  · intro none
    exact Decidable.byContradiction fun meet => none ⟨max a c, by omega⟩

theorem rangesDisjoint_iff :
    s.rangesDisjoint = true ↔ s.absent .left ∨ s.absent .right ∨
      ¬ ∃ n : Int, s.firstNode .left ≤ n ∧ n ≤ s.lastNode .left ∧ s.firstNode .right ≤ n ∧ n ≤ s.lastNode .right := by
  rw [State.rangesDisjoint, Bool.or_eq_true, Bool.not_and, Bool.or_eq_true, not_present_iff_absent, not_present_iff_absent,
    decide_eq_true_eq, min_lt_max_iff_disjoint, or_assoc]

end

/-- Settles O26: each of the nine conditions renders the spec's at its place. -/
theorem consistencyCheckNamesTheFirstFailure : Obligations.ConsistencyCheckNamesTheFirstFailure := by
  unfold Obligations.ConsistencyCheckNamesTheFirstFailure
  intro s absent conditions
  have somePresent : (s.present .left || s.present .right) = true ↔ ¬ absent .left ∨ ¬ absent .right := by
    rw [Bool.or_eq_true, present_iff, present_iff]
  have rendered : AllRender s.conditions conditions :=
    .cons ⟨firstFits_iff, rfl, rfl⟩ <| .cons ⟨lastFits_iff, rfl, rfl⟩ <|
    .cons ⟨firstFits_iff, rfl, rfl⟩ <| .cons ⟨lastFits_iff, rfl, rfl⟩ <|
    .cons ⟨somePresent, rfl, rfl⟩ <| .cons ⟨rangesDisjoint_iff, rfl, rfl⟩ <|
    .cons ⟨decide_eq_true_iff, rfl, rfl⟩ <| .cons ⟨decide_eq_true_iff, rfl, rfl⟩ <|
    .cons ⟨decide_eq_true_iff, rfl, rfl⟩ .nil
  exact ⟨find?_fails_eq_none_iff rendered, fun c found => exists_split_of_find?_fails rendered found⟩

end Sys2Proof.Machine
end

section
/-! PROOFS. A byte on the vehicle link, by what it can do (R159 to R161). -/

namespace Sys2Proof.Machine

/-- A byte on the vehicle link moves the framer, and may then count an event or offer a frame: what holds of the three holds
of every byte. -/
theorem receiveLinkByte_cases {P : State → Prop} {s : State}
    (moved : ∀ framer rxBytes, P { s with framer, rxBytes, rxSilentSince := some s.micros })
    (counted : ∀ id framer rxBytes, P (countEvent id { s with framer, rxBytes, rxSilentSince := some s.micros }))
    (offered : ∀ f framer rxBytes, P (offerFrame f { s with framer, rxBytes, rxSilentSince := some s.micros }))
    (b : Byte) (framingError : Bool) : P (receiveLinkByte b framingError s) := by
  unfold receiveLinkByte faultyByte goodByte headerByte payloadByte crcByte completeFrame
  dsimp only
  split
  · split
    · exact counted _ _ _
    · exact moved _ _
  · split
    · exact moved _ _
    · split <;> exact moved _ _
    · split
      · exact moved _ _
      · split
        · exact counted _ _ _
        · exact moved _ _
    · exact moved _ _
    · split
      · exact moved _ _
      · split
        · exact offered _ _ _
        · exact counted _ _ _

end Sys2Proof.Machine
end

section
/-! PROOFS. Every reply fits the frame (R165): the lists that a reply can report are bounded, and each part with them. -/

namespace Sys2Proof.Machine

/-! ## The lengths of what replies report (R174) -/

theorem length_flatMap_le {α β : Type} {f : α → List β} {n : Nat} (h : ∀ a, (f a).length ≤ n) (l : List α) :
    (l.flatMap f).length ≤ n * l.length := by
  induction l with
  | nil => exact Nat.zero_le _
  | cons a l ih =>
    have first := h a
    rw [List.flatMap_cons, List.length_append, List.length_cons, Nat.mul_succ]
    omega

theorem length_targetsReport_le (s : State) : (targetsReport s).length ≤ 14 * s.slots.length := by
  unfold targetsReport
  rw [← List.length_zipIdx (l := s.slots)]
  refine length_flatMap_le (fun p => ?_) _
  split
  · exact Nat.le_of_eq (length_packBits 14 _)
  · exact Nat.zero_le _

theorem length_nodesReport_le (s : State) : (nodesReport s).length ≤ 210 :=
  length_flatMap_le (f := fun i => (s.node (i + 1)).bytes (i + 1)) (fun _ => Nat.le_refl 7) (List.range 30)

theorem length_readItems (s : State) (table n index : Nat) : (readItems s table n index).length = 2 * n := by
  induction n generalizing index with
  | zero => rfl
  | succ n ih =>
    rw [readItems, List.length_append, ih]
    exact Nat.add_comm 2 _

theorem length_parseObservations (n : Nat) (bytes : List Byte) : (parseObservations n bytes).length = n := by
  induction n generalizing bytes with
  | zero => rfl
  | succ n ih => rw [parseObservations, List.length_cons, ih]

theorem length_outcomes (x : Exposure) (os : List Observation) (s : State) :
    (observeAll x os s).2.1.length = 2 * os.length := by
  induction os generalizing s with
  | nil => rfl
  | cons o os ih =>
    rw [observeAll, List.length_append, ih]
    exact Nat.add_comm 2 _

/-- The bytes of a service echo that completes are at most twenty (R111, R116). -/
theorem length_passAnswer_le {x : Exchange} {bytes : List Byte} (complete : echoProgress bytes = .complete)
    (good : echoGood x bytes = true) : (passAnswer (echoOutcome x bytes)).2.length ≤ 21 := by
  unfold echoOutcome
  split
  · exact Nat.zero_le _
  · rename_i sent service
    have kind : byteAt bytes 1 = 2 := by
      unfold echoGood at good
      simp only [Bool.and_eq_true, beq_iff_eq, service] at good
      exact good.1.1
    have short : (byteAt bytes 3).toNat ≤ 20 := by
      refine Nat.le_of_not_lt fun long => ?_
      by_cases four : 4 ≤ bytes.length
      · rw [echoProgress_service four kind, if_pos (.inr long)] at complete
        cases complete
      · rw [echoProgress_service_short (Nat.lt_of_not_le four) kind] at complete
        cases complete
    have taken := List.length_take_le (byteAt bytes 3).toNat (bytes.drop 4)
    exact Nat.succ_le_succ (Nat.le_trans taken short)

/-! ## What bounds the replies -/

/-- What `ShadowCountLaw` and `ReplySizeLaw` say, with what keeps them: the bounds on every list that a reply reports. -/
structure RepliesBounded (slots : List (Option Entry)) (faults : List FaultRecord) (counters : List Counter)
    (left right : List Window) (composition : Option Composition) (reply : Option Reply) : Prop where
  slots : slots.length = 16
  faults : faults.length ≤ 24
  counters : counters.length = 13
  left : left.length ≤ 16
  right : right.length ≤ 16
  composed : ∀ c, composition = some c →
    c.targets.length = 16 ∧ c.shadowsLeft.length ≤ 16 ∧ c.shadowsRight.length ≤ 16
  reply : ∀ r, reply = some r → r.payload.length ≤ 240

/-- The replies of a state are bounded, and held there. -/
abbrev Bounded (s : State) : Prop :=
  RepliesBounded s.slots s.faults s.counters s.left.shadows s.right.shadows s.composition s.replyBuffer

theorem bounded_of_laws {s : State} (table : TargetTableLaw s) (faults : FaultListLaw s) (counters : CounterLaw s)
    (shadows : ShadowCountLaw s) (replies : ReplySizeLaw s) : Bounded s := by
  obtain ⟨left, right, composed⟩ := shadows
  exact ⟨table.1, faults.1, counters.1, left, right, composed, replies⟩

theorem bounded_reset : Bounded State.reset :=
  ⟨rfl, by decide, rfl, by decide, by decide, nofun, nofun⟩

section
variable {s : State}

/-! ## Replies, slots, counters and faults -/

/-- A reply is its status, eight bytes of summary, and its part (R165, R168). -/
theorem Bounded.answer (h : Bounded s) (f : LinkFrame) (status : Status) {part : List Byte} (short : part.length ≤ 231) :
    Bounded (answer f status part s) := by
  have length : (replyTo f status part s).payload.length = 9 + part.length := by
    simp only [replyTo, State.summary, bytes16, List.length_cons, List.length_append, List.length_nil]
    omega
  exact { h with reply := fun r hr => by cases hr; omega }

theorem Bounded.answerEmpty (h : Bounded s) (f : LinkFrame) (status : Status) : Bounded (Machine.answer f status [] s) :=
  h.answer f status (Nat.zero_le _)

theorem Bounded.noReply (h : Bounded s) : Bounded { s with replyBuffer := none } := { h with reply := nofun }

theorem Bounded.answerHeld (h : Bounded s) (status : Status) {part : List Byte} (short : part.length ≤ 231) :
    Bounded (answerHeld status part s) := by
  unfold Machine.answerHeld
  split
  · exact h.answer _ _ short
  · exact h
  · exact h

theorem Bounded.count (h : Bounded s) (id : CounterId) : Bounded (countEvent id s) :=
  { h with counters := (List.length_modify ..).trans h.counters }

theorem length_latchFault_le (h : s.faults.length ≤ 24) (kind : FaultKind) (subject : Nat) (now : Millis) :
    (latchFault kind subject now s).faults.length ≤ 24 := by
  unfold latchFault
  split
  · rwa [List.length_map]
  · split
    · rw [List.length_append]
      assumption
    · exact h

theorem Bounded.refault (h : Bounded s) {t : State} (only : OnlyFaults s t) (few : t.faults.length ≤ 24) : Bounded t := by
  unfold OnlyFaults at only
  rw [only]
  exact { h with faults := few }

theorem Bounded.latch (h : Bounded s) (kind : FaultKind) (subject : Nat) : Bounded (latch kind subject s) :=
  h.refault (latchFault_only kind subject s.timeBase s) (length_latchFault_le h.faults kind subject s.timeBase)

theorem Bounded.latchIf (h : Bounded s) (condition : Bool) (kind : FaultKind) (subject : Nat) :
    Bounded (latchIf condition kind subject s) := by
  unfold Machine.latchIf
  split
  · exact h.latch _ _
  · exact h

theorem Bounded.setSlot (h : Bounded s) (i : Nat) (e : Option Entry) : Bounded (setSlot i e s) :=
  { h with slots := List.length_set.trans h.slots }

theorem Bounded.clearTable (h : Bounded s) : Bounded (clearTable s) := { h with slots := rfl }

/-! ## Heads -/

theorem Bounded.head (h : Bounded s) (k : Head) : (s.head k).shadows.length ≤ 16 := by
  cases k
  · exact h.left
  · exact h.right

theorem Bounded.setHead (h : Bounded s) (k : Head) {hs : HeadState} (few : hs.shadows.length ≤ 16) :
    Bounded (s.setHead k hs) := by
  cases k
  · exact { h with left := few }
  · exact { h with right := few }

/-! ## The Node Supervisor and the Link Sequencer -/

theorem Bounded.nodeOutcome (h : Bounded s) (id : Nat) (o : ExchangeOutcome) : Bounded (nodeOutcome id o s) := by
  have recorded : ∀ r, Bounded (setNode id r s) := fun _ => h
  unfold Machine.nodeOutcome
  dsimp only
  split
  · exact h
  · split
    · exact (((recorded _).latchIf _ _ _).latchIf _ _ _).latchIf _ _ _
    · exact h
    · exact (recorded _).latchIf _ _ _

theorem Bounded.grantHead (h : Bounded s) (k : Head) : Bounded (grantHead k s) := by
  unfold Machine.grantHead
  split
  · exact h
  · exact h.setHead k (h.head k)

theorem Bounded.arbitrate (h : Bounded s) : Bounded (arbitrate s) := by
  unfold Machine.arbitrate
  split
  · split
    · exact h
    · exact h
  · split
    · exact h.grantHead _
    · exact h

theorem Bounded.requestArrived (h : Bounded s) : Bounded (requestArrived s) := by
  unfold Machine.requestArrived
  split
  · exact h.arbitrate
  · exact h

theorem Bounded.stageFrame (h : Bounded s) (k : Head) (levels : List Nat) : Bounded (stageFrame k levels s) := by
  have counted : Bounded (if (s.head k).staged.isSome then countEvent (.superseded k) s else s) := by
    split
    · exact h.count _
    · exact h
  refine Bounded.requestArrived ?_
  exact counted.setHead k (counted.head k)

theorem Bounded.endTransfer (h : Bounded s) (k : Head) : Bounded (endTransfer k s) := by
  have ended : Bounded (s.setHead k { s.head k with live := none }) := h.setHead k (h.head k)
  exact Bounded.arbitrate (s := { s.setHead k { s.head k with live := none } with grant := .none }) ended

theorem Bounded.truncateTransfer (h : Bounded s) (k : Head) : Bounded (truncateTransfer k s) := by
  have moved : Bounded (s.setHead k { s.head k with cursor := ((s.head k).cursor + s.progress) % s.nodeCount k }) :=
    h.setHead k (h.head k)
  exact (moved.count (.truncated k)).endTransfer k

theorem Bounded.continueTransfer (h : Bounded s) (k : Head) : Bounded (continueTransfer k s) := by
  have sent : Bounded { s with progress := s.progress + 1 } := h
  unfold Machine.continueTransfer
  dsimp only
  split
  · exact sent.endTransfer k
  · split
    · exact sent.truncateTransfer k
    · exact h

theorem Bounded.countFailure (h : Bounded s) (port : Head) (o : ExchangeOutcome) : Bounded (countFailure port o s) := by
  unfold Machine.countFailure
  split
  · exact h.count _
  · exact h

/-- The completion of an exchange answers a NODE PASS with what its outcome reports (R117, R126). -/
theorem Bounded.completeExchange (h : Bounded s) (x : Exchange) {o : ExchangeOutcome}
    (short : (passAnswer o).2.length ≤ 21) : Bounded (completeExchange x o s) := by
  have judged := (Bounded.nodeOutcome (s := { s with exchange := none }) h x.node o).countFailure x.port o
  unfold Machine.completeExchange
  dsimp only
  split
  · exact judged.continueTransfer _
  · exact (Bounded.answerHeld
      (s := { Machine.countFailure x.port o (Machine.nodeOutcome x.node o { s with exchange := none }) with
        grant := .none, passThrough := none })
      judged _ (Nat.le_trans short (by decide))).arbitrate
  · exact judged

theorem Bounded.receiveEchoBody (h : Bounded s) (x : Exchange) (ended : Nat) (bytes : List Byte) :
    Bounded (receiveEchoBody x ended bytes s) := by
  unfold Machine.receiveEchoBody
  split
  · exact h
  · exact h
  · rename_i complete
    split
    · rename_i good
      exact h.completeExchange x (length_passAnswer_le complete good)
    · exact h

theorem Bounded.receiveEchoByte (h : Bounded s) (port : Head) (b : Byte) (stopLow : Bool) :
    Bounded (receiveEchoByte port b stopLow s) := by
  unfold Machine.receiveEchoByte
  split
  · exact h
  · split
    · exact h
    · split
      · exact h
      · split <;> exact h
      · split
        · exact h
        · exact h.receiveEchoBody _ _ _
      · exact h

theorem Bounded.receiveEchoInput (h : Bounded s) (port : Head) (input : LineInput) (stopLow : Bool) :
    Bounded (receiveEchoInput port input stopLow s) := by
  cases input with
  | startBit =>
    unfold Machine.receiveEchoInput beginEchoByte
    dsimp only
    repeat' split
    all_goals exact h
  | byte b => exact h.receiveEchoByte port b stopLow

theorem Bounded.finishBlock (h : Bounded s) : Bounded (finishBlock s) := by
  unfold Machine.finishBlock
  split <;> exact h

theorem Bounded.failExchange (h : Bounded s) : Bounded (failExchange s) := by
  unfold Machine.failExchange
  split
  · exact h
  · exact h.completeExchange _ (Nat.zero_le _)

/-! ## The Composer and the frame clock -/

/-- The snapshot of a composition is the aged table, and its lists are empty (R39, R61). -/
theorem Bounded.beginComposition (h : Bounded s) : Bounded (beginComposition s) := by
  have aged : (ageTable s.timeBase s).slots.length = 16 := (List.length_map _).trans h.slots
  exact { h with
    slots := aged
    composed := fun c hc => by cases hc; exact ⟨aged, Nat.zero_le _, Nat.zero_le _⟩ }

theorem Bounded.frameClock (h : Bounded s) : Bounded (frameClock s) := by
  have moved : Bounded { s with framePhase := s.framePhase.map (· + millis s.framePeriod) } := h
  unfold Machine.frameClock takeFrameStart
  split
  · split
    · exact moved.count _
    · exact moved.beginComposition
  · split
    · exact moved.count _
    · exact moved.beginComposition
  · unfold stageDirectFrames
    exact List.foldlRecOn (motive := Bounded) _ _ moved fun t ht k _ => ht.stageFrame k _
  · exact h
  · exact h

theorem Bounded.completeComposition (h : Bounded s) {c : Composition} (left : c.shadowsLeft.length ≤ 16)
    (right : c.shadowsRight.length ≤ 16) : Bounded (completeComposition c s) :=
  { h with left, right, composed := nofun }

/-- A shadow list has at most one window for each slot of the snapshot (R47, R60). -/
theorem length_compositionShadows_le (s : State) (c : Composition) (k : Head) :
    (compositionShadows s c k).length ≤ c.targets.length := by
  unfold compositionShadows
  split
  · calc (shadowList s k c.frameStart c.targets).length
        ≤ (entryWindows s k c.frameStart c.targets).length := length_shadowList_le ..
      _ ≤ c.targets.length := List.length_filterMap_le ..
  · exact Nat.zero_le _

theorem Bounded.endHeadStage (h : Bounded s) {c : Composition} (busy : s.composition = some c) (k : Head)
    (rest : List Head) : Bounded (endHeadStage c k rest s) := by
  obtain ⟨targets, left, right⟩ := h.composed c busy
  have few : (compositionShadows s c k).length ≤ 16 := targets ▸ length_compositionShadows_le s c k
  have next : (c.composed k (compositionShadows s c k) rest).targets.length = 16 ∧
      (c.composed k (compositionShadows s c k) rest).shadowsLeft.length ≤ 16 ∧
      (c.composed k (compositionShadows s c k) rest).shadowsRight.length ≤ 16 := by
    cases k
    · exact ⟨targets, few, right⟩
    · exact ⟨targets, left, few⟩
  have applied : Bounded
      { s.setHead k { s.head k with applied := composedLevels s c k (compositionShadows s c k) } with
        composition := some (c.composed k (compositionShadows s c k) rest) } :=
    { h.setHead k (hs := { s.head k with applied := composedLevels s c k (compositionShadows s c k) }) (h.head k) with
      composed := fun d hd => by cases hd; exact next }
  have staged := applied.stageFrame k (composedLevels s c k (compositionShadows s c k))
  unfold Machine.endHeadStage
  dsimp only
  split
  · exact staged.completeComposition next.2.1 next.2.2
  · exact staged

theorem Bounded.finishHeadStage (h : Bounded s) : Bounded (finishHeadStage s) := by
  unfold Machine.finishHeadStage
  split
  · exact h
  · rename_i c busy
    obtain ⟨_, left, right⟩ := h.composed c busy
    split
    · exact h.completeComposition left right
    · exact h.endHeadStage busy _ _

/-! ## Modes -/

theorem Bounded.teardown (h : Bounded s) : Bounded (teardown s) :=
  { h with slots := rfl, left := Nat.zero_le _, right := Nat.zero_le _, composed := nofun }

theorem Bounded.abortDirect (h : Bounded s) : Bounded (abortDirect s) :=
  (h.teardown.latch .directAborted 0).answerHeld .wrongState (Nat.zero_le _)

theorem Bounded.recoverIfSeen (h : Bounded s) : Bounded (recoverIfSeen s) := by
  unfold Machine.recoverIfSeen
  split <;> exact h

theorem Bounded.afterSceneAccepted (h : Bounded s) : Bounded (afterSceneAccepted s) := by
  unfold Machine.afterSceneAccepted
  split
  · exact h
  · exact h
  · exact h
  · exact Bounded.recoverIfSeen (s := { s with sceneSeen := true }) h
  · split
    · exact h.abortDirect
    · exact h

theorem Bounded.afterTrackAccepted (h : Bounded s) : Bounded (afterTrackAccepted s) := by
  unfold Machine.afterTrackAccepted
  split
  · exact h
  · exact Bounded.recoverIfSeen (s := { s with trackSeen := true }) h
  all_goals exact h

/-- The entry to SAFE behind the latching of its cause (R151, R152). -/
theorem Bounded.enterSafe (h : Bounded s) (kind : FaultKind) : Bounded (enterSafe (Machine.latch kind 0 s)) :=
  Bounded.clearTable (s := { Machine.latch kind 0 s with
    mode := .safe, trackPending := false, sceneSeen := false, trackSeen := false, sceneTimer := none, trackTimer := none })
    (h.latch kind 0)

theorem Bounded.sceneTimerExpired (h : Bounded s) : Bounded (sceneTimerExpired s) := by
  unfold Machine.sceneTimerExpired
  split
  · exact h.enterSafe _
  · exact h.abortDirect
  all_goals exact h

theorem Bounded.trackTimerExpired (h : Bounded s) : Bounded (trackTimerExpired s) := by
  unfold Machine.trackTimerExpired
  split
  · exact h.enterSafe _
  all_goals exact h

/-! ## The Calibration Store -/

theorem Bounded.judgeGroup (h : Bounded s) (image : List Byte) (g : Nat) : Bounded (judgeGroup image s g) := by
  unfold Machine.judgeGroup
  split
  · exact h
  · split
    · exact h
    · exact h.latch _ _

theorem Bounded.failAutoload (h : Bounded s) : Bounded (failAutoload s) :=
  Bounded.latch (s := { s with holdingBuffer := [], tables := defaultTables }) h .calAbsent 0

theorem Bounded.finishAutoload (h : Bounded s) (image : List Byte) : Bounded (finishAutoload image s) := by
  unfold Machine.finishAutoload
  split
  · exact h
  · split
    · exact h.failAutoload
    · split
      · exact List.foldlRecOn (motive := Bounded) (List.range 8) (Machine.judgeGroup image)
          (b := { s with holdingBuffer := image }) h fun _ ht g _ => ht.judgeGroup image g
      · exact h

theorem Bounded.missAcknowledge (h : Bounded s) : Bounded (missAcknowledge s) := by
  unfold Machine.missAcknowledge
  split
  · exact h
  · exact h.failAutoload

/-! ## Requests -/

theorem Bounded.serveScene (h : Bounded s) (f : LinkFrame) : Bounded (serveScene f s) := by
  unfold Machine.serveScene
  split
  · exact h.answerEmpty f _
  · split
    · exact h.answerEmpty f _
    · have accepted := Bounded.afterSceneAccepted (s := { s with scene := (takeScene f.payload s.timeBase s.scene).1 }) h
      exact accepted.answerEmpty f _

theorem Bounded.admitNew (h : Bounded s) (x : Exposure) (o : Observation) : Bounded (admitNew x o s).1 := by
  unfold Machine.admitNew
  split
  · exact h.count _
  · split
    · exact h.setSlot _ _
    · split
      · exact (h.setSlot _ _).count _
      · exact h.count _

theorem Bounded.observe (h : Bounded s) (x : Exposure) (o : Observation) : Bounded (observe x o s).state := by
  unfold Machine.observe
  split
  · split
    · exact h.count _
    · unfold removeLeaving
      split
      · exact h.setSlot _ _
      · exact h
  · split
    · exact h.count _
    · unfold writeObservation
      split
      · split
        · exact h.setSlot _ _
        · exact h.admitNew x _
      · exact h.admitNew x _

theorem Bounded.observeAll (h : Bounded s) (x : Exposure) (os : List Observation) : Bounded (observeAll x os s).1 := by
  induction os generalizing s with
  | nil => exact h
  | cons o os ih => exact ih (h.observe x o)

/-- The reply to a TRACK has two bytes for each of at most twelve observations (R36, R170). -/
theorem Bounded.serveTrack (h : Bounded s) (f : LinkFrame) : Bounded (serveTrack f s) := by
  unfold Machine.serveTrack
  split
  · exact h.answerEmpty f _
  · split
    · exact h.answerEmpty f _
    · split
      · exact h.answerEmpty f _
      · rename_i twelve
        have accepted := Bounded.afterTrackAccepted (s := { s with lastTrackTime := s.timeBase, trackAccepted := true }) h
        refine (accepted.observeAll (trackExposure f) (parseObservations (trackCount f.payload) (f.payload.drop 4))).answer
          f _ ?_
        rw [length_outcomes, length_parseObservations]
        omega

theorem Bounded.serveDrop (h : Bounded s) (f : LinkFrame) : Bounded (serveDrop f s) := by
  have dropped : Bounded (dropEntries (byteAt f.payload 0).toNat s).1 := by
    unfold dropEntries
    split
    · exact h.clearTable
    · split
      · exact h.setSlot _ _
      · exact h
  unfold Machine.serveDrop
  split
  · exact h.answerEmpty f _
  · split
    · exact h.answerEmpty f _
    · exact dropped.answer f _ (part := [_]) (by simp)

theorem Bounded.modeToStandby (h : Bounded s) (f : LinkFrame) : Bounded (modeToStandby f s) := by
  unfold Machine.modeToStandby
  split
  · exact h.answerEmpty f _
  · exact h.teardown.answerEmpty f _
  · exact h.teardown.answerEmpty f _
  · exact h.teardown.answerEmpty f _
  · exact h.answerEmpty f _

theorem Bounded.answerInconsistent (h : Bounded s) (f : LinkFrame) (c : Condition) : Bounded (answerInconsistent f c s) :=
  h.answer f _ (part := [_, _]) (by simp)

theorem Bounded.modeToActive (h : Bounded s) (f : LinkFrame) : Bounded (modeToActive f s) := by
  have entered : Bounded (enterActive s) := h
  unfold Machine.modeToActive activate
  split
  · split
    · exact h.answerInconsistent f _
    · exact entered.answerEmpty f _
  all_goals exact h.answerEmpty f _

theorem Bounded.modeToDirect (h : Bounded s) (f : LinkFrame) : Bounded (modeToDirect f s) := by
  have entered : Bounded (enterDirect s) := h
  unfold Machine.modeToDirect directIfSlow
  split
  · split
    · exact h.answerInconsistent f _
    · split
      · exact h.answerEmpty f _
      · exact entered.answerEmpty f _
  all_goals exact h.answerEmpty f _

theorem Bounded.serveMode (h : Bounded s) (f : LinkFrame) : Bounded (serveMode f s) := by
  unfold Machine.serveMode
  split
  · exact h.answerEmpty f _
  · split
    · exact h.answerEmpty f _
    · split
      · exact h.modeToStandby f
      · exact h.modeToActive f
      · exact h.modeToDirect f
      · exact h.answerEmpty f _

/-- Sixteen windows of six bytes (R66). -/
theorem Bounded.queryShadows (h : Bounded s) (f : LinkFrame) : Bounded (queryShadows f s) := by
  unfold Machine.queryShadows
  split
  · exact h.answerEmpty f _
  · rename_i k _
    have few := h.head k
    have windows := length_flatMap_le (f := Window.bytes) (fun _ => Nat.le_refl 6) (s.head k).shadows
    refine h.answer f _ ?_
    simp only [List.length_cons]
    omega

/-- Sixteen levels of two bytes (R95). -/
theorem Bounded.queryLevels (h : Bounded s) (f : LinkFrame) : Bounded (queryLevels f s) := by
  unfold Machine.queryLevels
  split
  · exact h.answerEmpty f _
  · split
    · exact h.answerEmpty f _
    · exact h.answer f _ (show 35 ≤ 231 by decide)

/-- Twenty-four records of seven bytes (R182). -/
theorem Bounded.queryFaults (h : Bounded s) (f : LinkFrame) : Bounded (queryFaults f s) := by
  have few := h.faults
  have records := length_flatMap_le (f := FaultRecord.bytes) (fun _ => Nat.le_refl 7) s.faults
  have answered := h.answer f .ok (part := 5 :: byteOf s.faults.length :: byteOf s.faultOverflow.toNat ::
    s.faults.flatMap FaultRecord.bytes) (by simp only [List.length_cons]; omega)
  exact { answered with faults := Nat.zero_le _ }

/-- Thirteen counters of two bytes, and their flags (R184). -/
theorem Bounded.queryCounters (h : Bounded s) (f : LinkFrame) : Bounded (queryCounters f s) := by
  have thirteen := h.counters
  have counts := length_flatMap_le (f := fun c : Counter => bytesOfNat16 c.count) (fun _ => Nat.le_refl 2) s.counters
  have flags : (bytesOfNat16 (overflowField s.counters)).length = 2 := rfl
  have answered := h.answer f .ok (part := 6 ::
    (s.counters.flatMap (fun c => bytesOfNat16 c.count) ++ bytesOfNat16 (overflowField s.counters)))
    (by rw [List.length_cons, List.length_append]; omega)
  exact { answered with counters := rfl }

/-- Of the other queries the longest replies are those of sixteen targets and of thirty nodes (R44, R140). -/
theorem Bounded.answerQuery (h : Bounded s) (f : LinkFrame) (kind : Nat) : Bounded (answerQuery f kind s) := by
  unfold Machine.answerQuery
  split
  · exact h.answer f _ (show 20 ≤ 231 by decide)
  · have sixteen := h.slots
    have targets := length_targetsReport_le s
    refine h.answer f _ ?_
    rw [List.length_cons, List.length_cons]
    omega
  · exact h.queryShadows f
  · exact h.answer f _ (Nat.succ_le_succ (Nat.le_trans (length_nodesReport_le s) (by decide)))
  · exact h.queryLevels f
  · exact h.queryFaults f
  · exact h.queryCounters f

theorem Bounded.serveQuery (h : Bounded s) (f : LinkFrame) : Bounded (serveQuery f s) := by
  unfold Machine.serveQuery
  split
  · exact h.answerEmpty f _
  · split
    · exact h.answerEmpty f _
    · split
      · exact h.answerEmpty f _
      · exact h.answerQuery f _

theorem Bounded.serveConfigWrite (h : Bounded s) (f : LinkFrame) : Bounded (serveConfigWrite f s) := by
  have written : ∀ table n index bytes, Bounded (writeItems table n index bytes s).1 := fun table n index bytes => by
    rw [writeItems_only]
    exact h
  unfold Machine.serveConfigWrite
  dsimp only
  split
  · exact h.answerEmpty f _
  · split
    · exact h.answerEmpty f _
    · split
      · exact h.answer f _ (part := [_]) (by decide)
      · exact (written _ _ _ _).answer f _ (part := [_]) (by simp)

/-- At most 64 items of two bytes (R180). -/
theorem Bounded.serveConfigRead (h : Bounded s) (f : LinkFrame) : Bounded (serveConfigRead f s) := by
  unfold Machine.serveConfigRead
  dsimp only
  split
  · exact h.answerEmpty f _
  · split
    · exact h.answerEmpty f _
    · split
      · exact h.answerEmpty f _
      · rename_i fits
        refine h.answer f _ ?_
        simp only [List.length_cons, length_readItems]
        omega

theorem Bounded.serveDirectLevels (h : Bounded s) (f : LinkFrame) : Bounded (serveDirectLevels f s) := by
  have written : ∀ k g values, Bounded (writeDirect k g values s) := fun k _ _ => h.setHead k (h.head k)
  unfold Machine.serveDirectLevels
  split
  · exact h.answerEmpty f _
  · split
    · exact h.answerEmpty f _
    · split
      · exact h.answerEmpty f _
      · split
        · exact h.answerEmpty f _
        · exact (written _ _ _).answerEmpty f _

theorem Bounded.serveNodePass (h : Bounded s) (f : LinkFrame) : Bounded (serveNodePass f s) := by
  unfold Machine.serveNodePass
  split
  · exact h.answerEmpty f _
  · split
    · exact h.answerEmpty f _
    · split
      · exact h.answerEmpty f _
      · exact Bounded.requestArrived (s := { s with handler := .serving f, passThrough := some f.asPass }) h

theorem Bounded.serve (h : Bounded s) (f : LinkFrame) : Bounded (serve f s) := by
  unfold Machine.serve
  split
  · exact h.serveScene f
  · exact h.serveTrack f
  · exact h.serveDrop f
  · exact h.serveMode f
  · exact h.serveQuery f
  · exact h.serveConfigWrite f
  · exact h.serveConfigRead f
  · exact h.serveDirectLevels f
  · exact h.serveNodePass f
  · exact h.answerEmpty f _

/-! ## Moments, commands and steps -/

theorem Bounded.takeNext (h : Bounded s) : Bounded (takeNext s) := by
  unfold Machine.takeNext
  split
  · exact h
  · exact h
  · split
    · exact h
    · rename_i f rest _
      exact Bounded.serve (s := { s with inbound := rest }) h f

theorem Bounded.offerFrame (h : Bounded s) (f : LinkFrame) : Bounded (offerFrame f s) := by
  unfold Machine.offerFrame
  split
  · exact Bounded.takeNext (s := { s with inbound := s.inbound ++ [f] }) h
  · exact h.count _

theorem Bounded.finishReply (h : Bounded s) : Bounded (finishReply s) :=
  Bounded.takeNext (s := { s with replyBuffer := none, handler := .idle }) h.noReply

theorem Bounded.receiveLinkByte (h : Bounded s) (b : Byte) (framingError : Bool) :
    Bounded (receiveLinkByte b framingError s) := by
  have moved : ∀ framer rxBytes, Bounded { s with framer, rxBytes, rxSilentSince := some s.micros } := fun _ _ => h
  exact receiveLinkByte_cases moved (fun id framer rxBytes => (moved framer rxBytes).count id)
    (fun f framer rxBytes => (moved framer rxBytes).offerFrame f) b framingError

theorem Bounded.happen (h : Bounded s) (c : Instr) : Bounded (happen c s) := by
  have dropped : Bounded { s with framer := .hunt, rxBytes := [] } := h
  unfold Machine.happen
  split
  · exact h.failAutoload
  · exact h.sceneTimerExpired
  · exact h.trackTimerExpired
  · exact h.frameClock
  · exact dropped.count _
  · exact h.finishReply
  · exact h.finishBlock
  · exact h.failExchange
  · exact h.failExchange
  · exact h.failExchange
  · exact h

theorem Bounded.runTo (h : Bounded s) (n : Nat) (c : Instr) : Bounded (runTo n c s) :=
  runTo_induction (P := Bounded) (fun _ hs => hs) (fun d t u hu _ _ => Bounded.happen (s := passTo t u) hu d) n c s h

theorem Bounded.after (h : Bounded s) (c : Instr) : Bounded (after c s) := by
  by_cases own : c ∈ ownCommands
  · rw [exec_next_iff.1 (exec_own own s)]
    exact h.runTo _ _
  · cases c
    case reset strap => exact bounded_reset
    case autoloadReadComplete image => exact h.finishAutoload image
    case eepromNoAcknowledge => exact h.missAcknowledge
    case frameReceived b => exact h.receiveLinkByte b false
    case frameAbandoned b framingError => exact h.receiveLinkByte b framingError
    case linkByteReceived input =>
      cases input with
      | startBit => exact h
      | byte b => exact h.receiveLinkByte b false
    case headStageComplete => exact h.finishHeadStage
    case echoReceived port b => exact h.receiveEchoByte port b false
    case echoByteReceived port input stopLow => exact h.receiveEchoInput port input stopLow
    all_goals first | exact h.offerFrame _ | exact absurd (by decide) own

theorem Bounded.step {t : State} (h : Bounded s) (e : step s = .next t) : Bounded t := by
  have key : ∀ t, Machine.step s = .next t → Bounded t :=
    step_cases (P := fun r => ∀ t, r = .next t → Bounded t)
      (fun c pending ties t ht => by
        rw [← exec_next_iff.1 ht]
        exact Bounded.after (s := { s with pending, ties }) h c)
      (fun t ht => by cases ht; exact h)
  exact key t e

end

/-- Settles O60: every operation keeps the lists that a reply reports within their bounds, and with them every reply. -/
theorem stepKeepsRepliesWithinTheFrame : Obligations.StepKeepsRepliesWithinTheFrame := by
  unfold Obligations.StepKeepsRepliesWithinTheFrame
  intro s t table faults counters shadows replies e
  have held : Bounded t := (bounded_of_laws table faults counters shadows replies).step e
  exact ⟨⟨held.left, held.right, held.composed⟩, held.reply⟩

end Sys2Proof.Machine
end

section
/-! PROOFS. The framer, byte by byte: its table, the check of a complete frame, and the ways in which one is abandoned (R157 to
R161). -/

namespace Sys2Proof.Machine

/-! ## What a byte does in each state of the framer (R159, R160) -/

section
variable {s : State} {b : Byte}

theorem keepByte_stays {framer : FramerState} (stays : s.framer = framer) :
    keepByte b framer s = { s with rxBytes := s.rxBytes ++ [b] } := by
  rw [keepByte, ← stays]

theorem goodByte_hunt (hunt : s.framer = .hunt) :
    goodByte b s = { s with framer := if b = 0xB4 then .pair else .hunt } := by
  simp only [goodByte, hunt]

theorem goodByte_pair_second (pair : s.framer = .pair) (second : b = 0x4B) :
    goodByte b s = { s with framer := .header, rxBytes := [] } := by
  simp only [goodByte, pair, if_pos second]

theorem goodByte_pair_other (pair : s.framer = .pair) (other : b ≠ 0x4B) :
    goodByte b s = { s with framer := if b = 0xB4 then .pair else .hunt } := by
  simp only [goodByte, pair, if_neg other]

theorem goodByte_header_early (header : s.framer = .header) (early : s.rxBytes.length < 2) :
    goodByte b s = { s with rxBytes := s.rxBytes ++ [b] } := by
  simp only [goodByte, header, headerByte, if_pos early, keepByte_stays header]

theorem goodByte_header_length (header : s.framer = .header) (third : s.rxBytes.length = 2) (fits : b.toNat ≤ 240) :
    goodByte b s = { s with framer := if b = 0 then .crc else .payload, rxBytes := s.rxBytes ++ [b] } := by
  simp only [goodByte, header, headerByte, if_neg (show ¬ s.rxBytes.length < 2 by omega), if_neg (Nat.not_lt.2 fits), keepByte]

theorem goodByte_header_above (header : s.framer = .header) (third : s.rxBytes.length = 2) (above : 240 < b.toNat) :
    goodByte b s = abandonFrame s := by
  simp only [goodByte, header, headerByte, if_neg (show ¬ s.rxBytes.length < 2 by omega), if_pos above]

theorem goodByte_payload_more (payload : s.framer = .payload) (more : s.rxBytes.length + 1 < 3 + s.rxLength) :
    goodByte b s = { s with rxBytes := s.rxBytes ++ [b] } := by
  simp only [goodByte, payload, payloadByte, if_pos more, keepByte_stays payload]

theorem goodByte_payload_last (payload : s.framer = .payload) (last : s.rxBytes.length + 1 = 3 + s.rxLength) :
    goodByte b s = { s with framer := .crc, rxBytes := s.rxBytes ++ [b] } := by
  simp only [goodByte, payload, payloadByte, if_neg (Nat.not_lt.2 (Nat.le_of_eq last.symm)), keepByte]

theorem goodByte_crc_first (crc : s.framer = .crc) (first : s.rxBytes.length < 4 + s.rxLength) :
    goodByte b s = { s with rxBytes := s.rxBytes ++ [b] } := by
  simp only [goodByte, crc, crcByte, if_pos first, keepByte_stays crc]

theorem goodByte_crc_second (crc : s.framer = .crc) (second : s.rxBytes.length = 4 + s.rxLength) :
    goodByte b s = completeFrame b s := by
  simp only [goodByte, crc, crcByte, if_neg (Nat.not_lt.2 (Nat.le_of_eq second.symm))]

end

/-- The receive wire has been silent since now (R160). -/
def State.heard (s : State) : State := { s with rxSilentSince := some s.micros }

theorem exec_linkByte_of {b : Byte} {s t : State} (moves : goodByte b s.heard = t) :
    exec (.linkByteReceived (.byte b)) s = .next t := congrArg Host.Outcome.next moves

/-- Settles O7, row by row of the framer's table. -/
theorem framerFollowsItsTable : Obligations.FramerFollowsItsTable := by
  unfold Obligations.FramerFollowsItsTable
  intro b s length
  refine ⟨rfl, fun hunt => ?_, fun pair second => ?_, fun pair other => ?_, fun header early => ?_,
    fun header third fits => ?_, fun header third above => ?_, fun payload more => ?_, fun payload last => ?_,
    fun crc first => ?_⟩
  · exact exec_linkByte_of (goodByte_hunt (s := s.heard) hunt)
  · exact exec_linkByte_of (goodByte_pair_second (s := s.heard) pair second)
  · exact exec_linkByte_of (goodByte_pair_other (s := s.heard) pair other)
  · exact exec_linkByte_of (goodByte_header_early (s := s.heard) header early)
  · exact exec_linkByte_of (goodByte_header_length (s := s.heard) header third fits)
  · exact exec_linkByte_of (goodByte_header_above (s := s.heard) header third above)
  · exact exec_linkByte_of (goodByte_payload_more (s := s.heard) payload more)
  · exact exec_linkByte_of (goodByte_payload_last (s := s.heard) payload last)
  · exact exec_linkByte_of (goodByte_crc_first (s := s.heard) crc first)

/-! ## Abandoned frames (R160) -/

theorem faultyByte_inFrame {s : State} (inside : s.framer.inFrame = true) : faultyByte s = abandonFrame s := if_pos inside

theorem faultyByte_outside {s : State} (outside : s.framer.inFrame = false) :
    faultyByte s = { s with framer := .hunt } := by
  simp [faultyByte, outside]

theorem causeAt_frameSilence_inFrame {s : State} (inside : s.framer.inFrame = true) :
    causeAt .frameSilenceTimeout s = s.rxSilentSince.map (· + 40) := if_pos inside

theorem causeAt_frameSilence_outside {s : State} (outside : s.framer.inFrame = false) :
    causeAt .frameSilenceTimeout s = none := by
  simp [causeAt, outside]

/-- Settles O10: each cause of an abandoned frame leads to `abandonFrame`. -/
theorem abandonedFrameIsDroppedAndCounted : Obligations.AbandonedFrameIsDroppedAndCounted := by
  unfold Obligations.AbandonedFrameIsDroppedAndCounted
  intro b s
  have faulty : exec (.frameAbandoned b true) s = .next (faultyByte s.heard) := rfl
  have good : exec (.frameAbandoned b false) s = .next (goodByte b s.heard) := rfl
  have own : Instr.frameSilenceTimeout ∈ ownCommands := by decide
  refine ⟨fun inside => ⟨?_, fun t silent first => ?_, fun incoming => ?_⟩, fun header third above => ?_,
    fun outside => ⟨?_, ?_⟩⟩
  · rw [faulty, faultyByte_inFrame (s := s.heard) inside]; rfl
  · have cause : causeAt .frameSilenceTimeout s = some (t + 40) := by rw [causeAt_frameSilence_inFrame inside, silent]; rfl
    rw [exec_at cause first]; rfl
  · exact exec_without own (by rw [causeAt_frameSilence_inFrame inside, incoming]; rfl)
  · rw [good, goodByte_header_above (s := s.heard) header third above]; rfl
  · rw [faulty, faultyByte_outside (s := s.heard) outside]; rfl
  · exact exec_without own (causeAt_frameSilence_outside outside)

/-! ## Requests that arrive (R161 to R163) -/

/-- Settles O12, by the two cases of the Request Handler. -/
theorem busyHandlerQueuesOrDrops : Obligations.BusyHandlerQueuesOrDrops := by
  unfold Obligations.BusyHandlerQueuesOrDrops
  intro c type tag payload s row
  refine ⟨fun busy room => ?_, fun busy full => ?_, fun ready => ?_⟩
  · rw [exec_request row, request_busy busy, if_pos room]
  · rw [exec_request row, request_busy busy, if_neg (Nat.not_lt.2 full)]
  · rw [exec_request row, request_ready ready]

theorem takeNext_busy {s : State} (busy : s.handler ≠ .idle) : takeNext s = s := by
  unfold takeNext
  split
  · rfl
  · rfl
  · rename_i idle
    exact absurd idle busy

theorem offerFrame_queued {s : State} (room : s.inbound.length < 4) (busy : s.handler ≠ .idle) (f : LinkFrame) :
    offerFrame f s = { s with inbound := s.inbound ++ [f] } := by
  rw [offerFrame, if_pos room, takeNext_busy (s := { s with inbound := s.inbound ++ [f] }) busy]

theorem offerFrame_full {s : State} (full : 4 ≤ s.inbound.length) (f : LinkFrame) :
    offerFrame f s = countEvent .queueFullDrops s := if_neg (Nat.not_lt.2 full)

/-! ## A complete frame (R158, R161) -/

/-- A byte is taken into the upper half of the register by eight steps of the polynomial 0x1021. -/
theorem crc16_concat (bytes : List Byte) (b : Byte) :
    crc16 (bytes ++ [b]) =
      (List.range 8).foldl (fun (r : BitVec 16) _ => if r.getMsbD 0 = true then (r <<< 1) ^^^ 0x1021 else r <<< 1)
        (crc16 bytes ^^^ (b ++ (0 : Byte))) := by
  rw [crc16, List.foldl_append]
  rfl

/-- The bytes that the CRC-16 of the frame being received covers (R158). -/
def State.rxCovered (s : State) : List Byte := s.rxBytes.take (3 + s.rxLength)

/-- The frame being received is intact with the second CRC byte `b` (R161). -/
def State.rxIntact (s : State) (b : Byte) : Prop := crc16 s.rxCovered = byteAt s.rxBytes (3 + s.rxLength) ++ b

/-- The frame being received, at its receipt (R162). -/
def State.rxFrame (s : State) : LinkFrame :=
  { type := byteAt s.rxBytes 0, tag := byteAt s.rxBytes 1, payload := s.rxCovered.drop 3, receipt := s.timeBase }

/-- The framer waits for the next frame (R159). -/
def State.hunting (s : State) : State := { s with framer := .hunt, rxBytes := [] }

theorem completeFrame_bad {s : State} {b : Byte} (bad : ¬ s.rxIntact b) :
    completeFrame b s = countEvent .linkCrcErrors s.hunting := if_neg bad

theorem completeFrame_good {s : State} {b : Byte} (good : s.rxIntact b) :
    completeFrame b s = offerFrame s.rxFrame s.hunting := if_pos good

/-- Settles O8: the second CRC byte completes the frame, which is judged and offered. -/
theorem completeFrameIsCheckedAndOffered : Obligations.CompleteFrameIsCheckedAndOffered := by
  unfold Obligations.CompleteFrameIsCheckedAndOffered
  refine ⟨⟨rfl, crc16_concat⟩, ?_⟩
  intro b s length crc second covered done good
  have completed : exec (.frameReceived b) s = .next (completeFrame b s.heard) :=
    congrArg Host.Outcome.next (goodByte_crc_second (s := s.heard) crc second)
  refine ⟨fun bad => ?_, fun intact full => ?_, fun intact room busy => ?_⟩
  · rw [completed, completeFrame_bad (s := s.heard) bad]; rfl
  · rw [completed, completeFrame_good (s := s.heard) intact, offerFrame_full (s := s.heard.hunting) full]; rfl
  · rw [completed, completeFrame_good (s := s.heard) intact, offerFrame_queued (s := s.heard.hunting) room busy]; rfl

/-! ## A frame on the wire (R158, R159, logs 6 and 11) -/

/-- The commands of one byte on the vehicle link, its start bit told or not (log 11). -/
def byteCommands (startBits : Bool) (b : Byte) : List Instr :=
  if startBits = true then [.linkByteReceived .startBit, .linkByteReceived (.byte b)] else [.linkByteReceived (.byte b)]

/-- A frame is being received: the framer, its bytes and the queue of commands, with a byte heard just now. -/
def State.receiving (s : State) (place : FramerState × List Byte) (pending : List Instr) : State :=
  { s with framer := place.1, rxBytes := place.2, rxSilentSince := some s.micros, pending }

theorem run_front {s t : State} {c : Instr} {rest : List Instr} (front : s.pending = c :: rest)
    (moves : exec c { s with pending := rest } = .next t) (n : Nat) :
    Host.Core.run core (n + 1) s = Host.Core.run core n t := by
  have moved : core.step s = .next t := (step_cons front).trans moves
  simp only [Host.Core.run, moved]

/-- The commands of a byte move the framer by that byte, whether its start bit is told or not. -/
theorem run_byteCommands (startBits : Bool) (b : Byte) (rest : List Instr) (n : Nat) (s : State) :
    Host.Core.run core ((byteCommands startBits b).length + n) { s with pending := byteCommands startBits b ++ rest } =
      Host.Core.run core n (goodByte b (State.heard { s with pending := rest })) := by
  cases startBits with
  | false =>
    rw [Nat.add_comm]
    exact run_front (s := { s with pending := .linkByteReceived (.byte b) :: rest }) rfl rfl n
  | true =>
    rw [Nat.add_comm]
    exact (run_front
      (s := { s with pending := .linkByteReceived .startBit :: .linkByteReceived (.byte b) :: rest }) rfl rfl (n + 1)).trans
      (run_front (s := { s with rxSilentSince := none, pending := .linkByteReceived (.byte b) :: rest }) rfl rfl n)

/-- The commands of some bytes take a framer from one state and its bytes to another. -/
def Receives (startBits : Bool) (s : State) (bytes : List Byte) (start finish : FramerState × List Byte) : Prop :=
  ∀ n rest,
    Host.Core.run core ((bytes.flatMap (byteCommands startBits)).length + n)
        (s.receiving start (bytes.flatMap (byteCommands startBits) ++ rest)) =
      Host.Core.run core n (s.receiving finish rest)

section
variable {startBits : Bool} {s : State} {start middle finish : FramerState × List Byte}

theorem Receives.nil : Receives startBits s [] start start := fun n rest => by
  rw [List.flatMap_nil, List.nil_append, List.length_nil, Nat.zero_add]

theorem Receives.cons {b : Byte} {bytes : List Byte}
    (first : ∀ rest, goodByte b (s.receiving start rest) = s.receiving middle rest)
    (later : Receives startBits s bytes middle finish) : Receives startBits s (b :: bytes) start finish := fun n rest => by
  rw [List.flatMap_cons, List.length_append, List.append_assoc, Nat.add_assoc, ← later, ← first]
  exact run_byteCommands startBits b _ _ (s.receiving start [])

theorem Receives.append {bytes more : List Byte} (first : Receives startBits s bytes start middle)
    (later : Receives startBits s more middle finish) : Receives startBits s (bytes ++ more) start finish := fun n rest => by
  rw [List.flatMap_append, List.length_append, List.append_assoc, Nat.add_assoc, first, later]

/-- The payload bytes of a frame, up to the last (R159). -/
theorem receives_payload {more rxBytes : List Byte} (someBytes : more ≠ []) (header : 3 ≤ rxBytes.length)
    (length : rxBytes.length + more.length = 3 + (byteAt rxBytes 2).toNat) :
    Receives startBits s more (.payload, rxBytes) (.crc, rxBytes ++ more) := by
  induction more generalizing rxBytes with
  | nil => exact absurd rfl someBytes
  | cons b more ih =>
    rw [List.length_cons] at length
    cases more with
    | nil =>
      refine .cons (fun rest => ?_) .nil
      exact goodByte_payload_last (s := s.receiving (.payload, rxBytes) rest) rfl length
    | cons c more =>
      rw [← List.singleton_append, ← List.append_assoc]
      have kept : byteAt (rxBytes ++ [b]) 2 = byteAt rxBytes 2 := byteAt_append_left header _
      refine .cons (middle := (.payload, rxBytes ++ [b])) (fun rest => ?_) (ih (List.cons_ne_nil c more) ?_ ?_)
      · refine goodByte_payload_more (s := s.receiving (.payload, rxBytes) rest) rfl ?_
        rw [List.length_cons] at length
        change rxBytes.length + 1 < 3 + (byteAt rxBytes 2).toNat
        omega
      · rw [List.length_append]
        exact Nat.le_add_right_of_le header
      · rw [kept, List.length_append, List.length_singleton]
        omega

theorem toNat_byteOf_length {payload : List Byte} (fits : payload.length ≤ 240) :
    (byteOf payload.length).toNat = payload.length := by
  rw [byteOf, BitVec.toNat_ofNat]
  omega

/-- The bytes that the CRC-16 covers: type, tag, length and payload (R158, R159). -/
theorem receives_covered (type tag : Byte) {payload : List Byte} (fits : payload.length ≤ 240) :
    Receives startBits s (coveredBytes type tag payload) (.header, []) (.crc, coveredBytes type tag payload) := by
  have length := toNat_byteOf_length fits
  have header : ∀ framer, (if byteOf payload.length = 0 then FramerState.crc else .payload) = framer →
      Receives startBits s [type, tag, byteOf payload.length] (.header, []) (framer, [type, tag, byteOf payload.length]) := by
    rintro _ rfl
    refine .cons (middle := (.header, [type])) (fun rest => ?_)
      (.cons (middle := (.header, [type, tag])) (fun rest => ?_) (.cons (fun rest => ?_) .nil))
    · exact goodByte_header_early (s := s.receiving (.header, []) rest) rfl Nat.zero_lt_two
    · exact goodByte_header_early (s := s.receiving (.header, [type]) rest) rfl Nat.one_lt_two
    · exact goodByte_header_length (s := s.receiving (.header, [type, tag]) rest) rfl rfl (length.symm ▸ fits)
  cases payload with
  | nil => exact header .crc rfl
  | cons b payload =>
    have someBytes : byteOf (b :: payload).length ≠ 0 := fun zero => by
      rw [zero] at length
      cases length
    exact (header .payload (if_neg someBytes)).append
      (receives_payload (List.cons_ne_nil b payload) (Nat.le_refl 3) (congrArg (3 + ·) length.symm))

/-- The bytes of a frame behind its first and before its last. -/
theorem receives_frame (type tag : Byte) {payload : List Byte} (fits : payload.length ≤ 240) (first : Byte) :
    Receives startBits s (0x4B :: (coveredBytes type tag payload ++ [first])) (.pair, s.rxBytes)
      (.crc, coveredBytes type tag payload ++ [first]) := by
  refine .cons (middle := (.header, [])) (fun rest => ?_)
    ((receives_covered type tag fits).append (.cons (fun rest => ?_) .nil))
  · exact goodByte_pair_second (s := s.receiving (.pair, s.rxBytes) rest) rfl rfl
  · refine goodByte_crc_first (s := s.receiving (.crc, coveredBytes type tag payload) rest) rfl ?_
    change payload.length + 3 < 4 + (byteOf payload.length).toNat
    rw [toNat_byteOf_length fits]
    omega

/-- The second CRC byte of a frame offers it to the queue, the framer being in HUNT again (R161). -/
theorem completeFrame_received (type tag : Byte) {payload : List Byte} (fits : payload.length ≤ 240) (rest : List Instr)
    {first second : Byte} (crc : crc16 (coveredBytes type tag payload) = first ++ second) :
    completeFrame second (s.receiving (.crc, coveredBytes type tag payload ++ [first]) rest) =
      offerFrame { type, tag, payload, receipt := s.timeBase } (s.receiving (.hunt, []) rest) := by
  let received := s.receiving (.crc, coveredBytes type tag payload ++ [first]) rest
  have length : 3 + received.rxLength = (coveredBytes type tag payload).length := by
    change 3 + (byteOf payload.length).toNat = payload.length + 3
    rw [toNat_byteOf_length fits, Nat.add_comm]
  have covered : received.rxCovered = coveredBytes type tag payload := by
    rw [State.rxCovered, length]
    exact List.take_left' rfl
  have intact : received.rxIntact second := by
    rw [State.rxIntact, covered, length, crc]
    exact congrArg (· ++ second) (byteAt_concat rfl first).symm
  have frame : received.rxFrame = { type, tag, payload, receipt := s.timeBase } := by
    rw [State.rxFrame, covered]
    rfl
  exact (completeFrame_good intact).trans (by rw [frame]; rfl)

/-- A frame that arrives whole is offered to the queue (R158, R159, R161). -/
theorem run_frameBytes (type tag : Byte) {payload : List Byte} (fits : payload.length ≤ 240) (rest : List Instr)
    (hunt : s.framer = .hunt) :
    Host.Core.run core ((frameBytes type tag payload).flatMap (byteCommands startBits)).length
        { s with pending := (frameBytes type tag payload).flatMap (byteCommands startBits) ++ rest } =
      .next (offerFrame { type, tag, payload, receipt := s.timeBase } (s.receiving (.hunt, []) rest)) := by
  let covered := coveredBytes type tag payload
  let first : Byte := (crc16 covered).extractLsb' 8 8
  let second : Byte := (crc16 covered).extractLsb' 0 8
  let inner := (0x4B :: (covered ++ [first])).flatMap (byteCommands startBits)
  have wire : (frameBytes type tag payload).flatMap (byteCommands startBits) =
      byteCommands startBits 0xB4 ++ (inner ++ byteCommands startBits second) := by
    have bytes : frameBytes type tag payload = 0xB4 :: (0x4B :: (covered ++ [first]) ++ [second]) := by
      simp [frameBytes, bytes16, covered, first, second]
    rw [bytes, List.flatMap_cons, List.flatMap_append, List.flatMap_singleton]
  have start : ∀ pending, goodByte 0xB4 (State.heard { s with pending }) = s.receiving (.pair, s.rxBytes) pending :=
    fun pending => goodByte_hunt (s := State.heard { s with pending }) hunt
  have crc : crc16 covered = first ++ second := (word16_bigEndian (crc16 covered)).symm
  have length : (covered ++ [first]).length = 4 + (byteOf payload.length).toNat := by
    rw [toNat_byteOf_length fits, List.length_append]
    exact Nat.add_comm payload.length 4
  rw [wire, List.length_append, List.length_append, List.append_assoc, List.append_assoc]
  calc Host.Core.run core ((byteCommands startBits 0xB4).length + (inner.length + (byteCommands startBits second).length))
          { s with pending := byteCommands startBits 0xB4 ++ (inner ++ (byteCommands startBits second ++ rest)) }
      = Host.Core.run core (inner.length + ((byteCommands startBits second).length + 0))
          (s.receiving (.pair, s.rxBytes) (inner ++ (byteCommands startBits second ++ rest))) := by
        rw [← start]
        exact run_byteCommands startBits 0xB4 _ _ s
    _ = Host.Core.run core ((byteCommands startBits second).length + 0)
          (s.receiving (.crc, covered ++ [first]) (byteCommands startBits second ++ rest)) :=
        receives_frame type tag fits first _ _
    _ = Host.Core.run core 0 (goodByte second (s.receiving (.crc, covered ++ [first]) rest)) :=
        run_byteCommands startBits second rest 0 (s.receiving (.crc, covered ++ [first]) [])
    _ = .next (completeFrame second (s.receiving (.crc, covered ++ [first]) rest)) :=
        congrArg Host.Outcome.next
          (goodByte_crc_second (s := s.receiving (.crc, covered ++ [first]) rest) rfl length)
    _ = _ := congrArg Host.Outcome.next (completeFrame_received type tag fits rest crc)

end

/-- Settles O9: the bytes of the frame take the framer through it, and the frame is offered as its request row is. -/
theorem frameOnTheWireActsAsItsRequestRow : Obligations.FrameOnTheWireActsAsItsRequestRow := by
  unfold Obligations.FrameOnTheWireActsAsItsRequestRow
  intro c type tag payload startBits rest s row fits hunt covered wire
  have heard : s.receiving (.hunt, []) rest = { s with pending := rest, rxBytes := [], rxSilentSince := some s.micros } := by
    rw [State.receiving, ← hunt]
  rw [exec_request row, request, ← heard]
  exact run_frameBytes type tag fits rest hunt

end Sys2Proof.Machine
end

section
/-! PROOFS. Refused requests, and what every reply shows (R164, R165, R167, R168). -/

namespace Sys2Proof.Machine

/-! ## The first check that fails (R164) -/

theorem knownType.cases {type : Byte} (known : knownType type) :
    type.toNat = 1 ∨ type.toNat = 2 ∨ type.toNat = 3 ∨ type.toNat = 4 ∨ type.toNat = 5 ∨ type.toNat = 6 ∨ type.toNat = 7 ∨
      type.toNat = 8 ∨ type.toNat = 9 := by
  obtain ⟨low, high⟩ := known
  omega

section
variable {f : LinkFrame} {s : State}

/-- A QUERY fits that has the length of its kind, or names no kind (R171). -/
theorem lengthFits_query {type : Byte} (query : type.toNat = 5) (kind : Byte) (parameters : List Byte) :
    lengthFits type (kind :: parameters) =
      (decide (6 < kind.toNat) || (kind :: parameters).length == queryLength kind.toNat) := by
  simp only [lengthFits, query]
  by_cases two : kind = 2
  · rw [if_pos two, two]; rfl
  · rw [if_neg two]
    by_cases four : kind = 4
    · rw [if_pos four, four]; rfl
    · have one : queryLength kind.toNat = 1 := by
        unfold queryLength
        split
        · exact absurd (BitVec.eq_of_toNat_eq ‹_›) two
        · exact absurd (BitVec.eq_of_toNat_eq ‹_›) four
        · rfl
      rw [if_neg four, one]
      by_cases above : 6 < kind.toNat <;> simp [above]

theorem serveQuery_badLength (type : f.type.toNat = 5) (unfit : lengthFits f.type f.payload = false) :
    serveQuery f s = answer f .badLength [] s := by
  unfold serveQuery
  split
  · rfl
  · rename_i kind parameters payload
    rw [payload, lengthFits_query type, Bool.or_eq_false_iff, decide_eq_false_iff_not, beq_eq_false_iff_ne] at unfit
    obtain ⟨known, wrong⟩ := unfit
    rw [if_neg known, if_pos (payload ▸ wrong)]

/-- The length is checked before everything else (R164). -/
theorem serve_badLength (known : knownType f.type) (unfit : lengthFits f.type f.payload = false) :
    serve f s = answer f .badLength [] s := by
  rcases known.cases with type | type | type | type | type | type | type | type | type
  · rw [serve_scene (BitVec.eq_of_toNat_eq type)]
    exact if_pos (by simpa [lengthFits, type] using unfit)
  · rw [serve_track (BitVec.eq_of_toNat_eq type)]
    refine if_pos ?_
    simp only [lengthFits, type, Bool.and_eq_false_iff, decide_eq_false_iff_not, beq_eq_false_iff_ne] at unfit
    exact unfit.imp_left Nat.lt_of_not_le
  · rw [serve_drop (BitVec.eq_of_toNat_eq type)]
    exact if_pos (by simpa [lengthFits, type] using unfit)
  · rw [serve_mode (BitVec.eq_of_toNat_eq type)]
    exact if_pos (by simpa [lengthFits, type] using unfit)
  · rw [serve_query (BitVec.eq_of_toNat_eq type)]
    exact serveQuery_badLength type unfit
  · rw [serve_configWrite (BitVec.eq_of_toNat_eq type)]
    refine if_pos ?_
    simp only [lengthFits, type, Bool.and_eq_false_iff, decide_eq_false_iff_not, beq_eq_false_iff_ne] at unfit
    omega
  · rw [serve_configRead (BitVec.eq_of_toNat_eq type)]
    exact if_pos (by simpa [lengthFits, type] using unfit)
  · rw [serve_directLevels (BitVec.eq_of_toNat_eq type)]
    exact if_pos (by simpa [lengthFits, type] using unfit)
  · rw [serve_nodePass (BitVec.eq_of_toNat_eq type)]
    refine if_pos ?_
    simp only [lengthFits, type, Bool.and_eq_false_iff, decide_eq_false_iff_not] at unfit
    omega

theorem composes_eq (mode : Mode) : mode.composes = (decide (mode = .active) || decide (mode = .safe)) := by
  cases mode <;> rfl

/-- The mode is checked behind the length (R164, chapter 8). -/
theorem serve_wrongState (known : knownType f.type) (fits : lengthFits f.type f.payload = true)
    (unaccepted : acceptedIn f.type s.mode = false) : serve f s = answer f .wrongState [] s := by
  rcases known.cases with type | type | type | type | type | type | type | type | type
  · rw [serve_scene (BitVec.eq_of_toNat_eq type)]
    simp only [lengthFits, acceptedIn, type, beq_iff_eq, decide_eq_false_iff_not, Decidable.not_not] at fits unaccepted
    rw [serveScene, if_neg (not_not_intro fits), if_pos unaccepted]
  · rw [serve_track (BitVec.eq_of_toNat_eq type)]
    simp only [lengthFits, acceptedIn, type, Bool.and_eq_true, decide_eq_true_eq, beq_iff_eq, ← composes_eq] at fits unaccepted
    rw [serveTrack, if_neg (by rw [trackCount]; omega), if_pos unaccepted]
  · rw [serve_drop (BitVec.eq_of_toNat_eq type)]
    simp only [lengthFits, acceptedIn, type, beq_iff_eq, ← composes_eq] at fits unaccepted
    rw [serveDrop, if_neg (not_not_intro fits), if_pos unaccepted]
  · rw [serve_mode (BitVec.eq_of_toNat_eq type)]
    simp only [lengthFits, acceptedIn, type, beq_iff_eq, decide_eq_false_iff_not, Decidable.not_not] at fits unaccepted
    rw [serveMode, if_neg (not_not_intro fits), if_pos unaccepted]
  · simp [acceptedIn, type] at unaccepted
  · rw [serve_configWrite (BitVec.eq_of_toNat_eq type)]
    simp only [lengthFits, acceptedIn, type, Bool.and_eq_true, decide_eq_true_eq, beq_iff_eq, decide_eq_false_iff_not]
      at fits unaccepted
    rw [serveConfigWrite, if_neg (by omega), if_pos unaccepted]
  · rw [serve_configRead (BitVec.eq_of_toNat_eq type)]
    simp only [lengthFits, acceptedIn, type, beq_iff_eq, decide_eq_false_iff_not, Decidable.not_not] at fits unaccepted
    rw [serveConfigRead, if_neg (not_not_intro fits), if_pos unaccepted]
  · rw [serve_directLevels (BitVec.eq_of_toNat_eq type)]
    simp only [lengthFits, acceptedIn, type, beq_iff_eq, decide_eq_false_iff_not] at fits unaccepted
    rw [serveDirectLevels, if_neg (not_not_intro fits), if_pos unaccepted]
  · rw [serve_nodePass (BitVec.eq_of_toNat_eq type)]
    simp only [lengthFits, acceptedIn, type, Bool.and_eq_true, decide_eq_true_eq, decide_eq_false_iff_not] at fits unaccepted
    rw [serveNodePass, if_neg (by omega), if_pos unaccepted]

end

/-! ## The summary block (R168) -/

theorem testBit_zero_of_flag (flag : Bool) (n : Nat) : (flag.toNat + 2 * n).testBit 0 = flag := by
  rw [Nat.testBit_zero, Nat.add_mul_mod_self_left]
  cases flag <;> rfl

theorem testBit_succ_of_flag (flag : Bool) (n i : Nat) : (flag.toNat + 2 * n).testBit (i + 1) = n.testBit i := by
  have below : flag.toNat < 2 := Bool.toNat_lt flag
  rw [Nat.testBit_succ, show (flag.toNat + 2 * n) / 2 = n by omega]

/-- The flags byte has the high beam in bit 0, track-pending in bit 1 and speed-held in bit 2. -/
theorem flagsByte_eq (s : State) :
    s.flagsByte = s.scene.highBeam.toNat + 2 * (s.trackPending.toNat + 2 * (s.scene.speedHeld.toNat + 2 * 0)) := by
  rw [State.flagsByte]
  omega

theorem getLsbD_flagsByte (s : State) (i : Nat) :
    (byteOf s.flagsByte).getLsbD i = true ↔
      (i = 0 ∧ s.scene.highBeam = true) ∨ (i = 1 ∧ s.trackPending = true) ∨ (i = 2 ∧ s.scene.speedHeld = true) := by
  rw [byteOf, BitVec.getLsbD_ofNat, flagsByte_eq]
  match i with
  | 0 =>
    rw [testBit_zero_of_flag, decide_eq_true (by decide), Bool.true_and]
    simp only [Nat.reduceEqDiff, true_and, false_and, or_false]
  | 1 =>
    rw [testBit_succ_of_flag, testBit_zero_of_flag, decide_eq_true (by decide), Bool.true_and]
    simp only [Nat.reduceEqDiff, true_and, false_and, or_false, false_or]
  | 2 =>
    rw [testBit_succ_of_flag, testBit_succ_of_flag, testBit_zero_of_flag, decide_eq_true (by decide), Bool.true_and]
    simp only [Nat.reduceEqDiff, true_and, false_and, false_or]
  | i + 3 =>
    rw [testBit_succ_of_flag, testBit_succ_of_flag, testBit_succ_of_flag, Nat.zero_testBit, Bool.and_false]
    exact ⟨nofun, by rintro (⟨no, _⟩ | ⟨no, _⟩ | ⟨no, _⟩) <;> omega⟩

/-- Each record sets the bit of its kind. -/
theorem getLsbD_foldl_faultBits (faults : List FaultRecord) (bits : BitVec 16) (i : Nat) :
    (faults.foldl (fun bits r => bits ||| ((1 : BitVec 16) <<< (r.kind.code - 1))) bits).getLsbD i = true ↔
      bits.getLsbD i = true ∨ ∃ r ∈ faults, r.kind.code - 1 = i := by
  induction faults generalizing bits with
  | nil => simp
  | cons r faults ih =>
    have bit : ((1 : BitVec 16) <<< (r.kind.code - 1)).getLsbD i = true ↔ r.kind.code - 1 = i := by
      have within : r.kind.code - 1 < 16 := by cases r.kind <;> decide
      rw [show (1 : BitVec 16) = 1#16 from rfl, BitVec.getLsbD_shiftLeft, BitVec.getLsbD_one]
      simp only [Bool.and_eq_true, Bool.not_eq_true', decide_eq_true_eq, decide_eq_false_iff_not]
      omega
    simp only [List.foldl_cons, ih, BitVec.getLsbD_or, Bool.or_eq_true, bit, List.mem_cons, exists_eq_or_imp, or_assoc]

theorem getLsbD_faultBits (faults : List FaultRecord) (i : Nat) :
    (faultBits faults).getLsbD i = true ↔ ∃ r ∈ faults, r.kind.code - 1 = i := by
  rw [faultBits, getLsbD_foldl_faultBits]
  simp

/-- A request that is refused at once, seen from its row. -/
theorem exec_refused {c : Instr} {type tag : Byte} {payload : List Byte} {s : State}
    (row : requestOf c = some (type, tag, payload)) (ready : Ready s) {status : Status} {part : List Byte}
    (refused : ∀ receipt, serve { type, tag, payload, receipt } s = answer { type, tag, payload, receipt } status part s) :
    ∃ t, exec c s = .next t ∧ Replied type tag status part t ∧ OnlyReplied s t :=
  ⟨answer { type, tag, payload, receipt := s.timeBase } status part s,
    by rw [exec_request row, request_ready ready, refused], answer_replied .., rfl⟩

/-- Settles O13: a request is refused by its type, its length or the mode, in that order, and the summary block shows its
fields. -/
theorem refusedRequestOnlyGetsItsAnswer : Obligations.RefusedRequestOnlyGetsItsAnswer := by
  unfold Obligations.RefusedRequestOnlyGetsItsAnswer
  refine ⟨fun c type tag payload s row ready => ⟨fun unknown => ?_, fun known unfit => ?_, fun known fits unaccepted => ?_⟩,
    fun s => ⟨byteOf s.flagsByte, faultBits s.faults, ?_⟩, fun status => by cases status <;> rfl⟩
  · exact exec_refused row ready fun _ => serve_unknown unknown s
  · exact exec_refused row ready fun _ => serve_badLength known unfit
  · exact exec_refused row ready fun _ => serve_wrongState known fits unaccepted
  · intro modeCode profile faultBit
    have mode : byteOf s.mode.code = modeCode := by cases h : s.mode <;> simp only [modeCode, h] <;> rfl
    have shown : byteOf (profileCode s.shaper.profile) = profile := by
      rcases h : s.shaper.profile with _ | _ | _ | _ <;> simp only [profile, h] <;> rfl
    have bit : ∀ kind : FaultKind, kind.code - 1 = faultBit kind := fun kind => by cases kind <;> rfl
    refine ⟨?_, getLsbD_flagsByte s, fun i => ?_⟩
    · rw [← mode, ← shown]
      rfl
    · rw [getLsbD_faultBits]
      simp only [bit]

end Sys2Proof.Machine
end

section
/-! PROOFS. CONFIG WRITE and CONFIG READ: successive items with wrap (R173, R179, R180). -/

namespace Sys2Proof.Machine

/-! ## Successive places of a table -/

/-- The place of the `j`-th value of a request from a start index, with wrap (R173). -/
def itemPlace (table index j : Nat) : Nat := (index + j) % itemCount table

theorem itemPlace_zero {table index : Nat} (within : index < itemCount table) : itemPlace table index 0 = index :=
  Nat.mod_eq_of_lt within

theorem itemPlace_next (table index j : Nat) :
    itemPlace table ((index + 1) % itemCount table) j = itemPlace table index (j + 1) := by
  rw [itemPlace, Nat.mod_add_mod, Nat.add_right_comm, Nat.add_assoc, itemPlace]

theorem next_lt_itemCount {table index : Nat} (within : index < itemCount table) :
    (index + 1) % itemCount table < itemCount table := Nat.mod_lt _ (Nat.zero_lt_of_lt within)

/-! ## CONFIG READ (R180) -/

theorem readItems_eq (s : State) {table index : Nat} (within : index < itemCount table) (n : Nat) :
    readItems s table n index = (List.range n).flatMap fun j => bytesOfInt16 (s.item table (itemPlace table index j)) := by
  induction n generalizing index with
  | zero => rfl
  | succ n ih =>
    rw [readItems, ih (next_lt_itemCount within), List.range_succ_eq_map, List.flatMap_cons, itemPlace_zero within,
      List.flatMap_map]
    simp only [itemPlace_next]

theorem byteOf_toNat (b : Byte) : byteOf b.toNat = b := BitVec.ofNat_toNat ..

theorem badItemPlace_eq_false {table index : Nat} (known : table ≤ 7) (within : index < itemCount table) :
    badItemPlace table index = false :=
  Bool.or_eq_false_iff.2 ⟨decide_eq_false (Nat.not_lt.2 known), decide_eq_false (Nat.not_le.2 within)⟩

theorem serveConfigRead_ok {f : LinkFrame} {s : State} {table index count : Byte} (payload : f.payload = [table, index, count])
    (outside : s.mode ≠ .start) (known : table.toNat ≤ 7) (within : index.toNat < itemCount table.toNat)
    (low : 1 ≤ count.toNat) (high : count.toNat ≤ 64) :
    serveConfigRead f s =
      answer f .ok (table :: index :: count :: readItems s table.toNat count.toNat index.toNat) s := by
  have fits : ¬ (count.toNat = 0 ∨ 64 < count.toNat ∨ badItemPlace table.toNat index.toNat = true) := by
    rw [badItemPlace_eq_false known within]
    rintro (none | many | bad)
    · omega
    · omega
    · cases bad
  rw [serveConfigRead, payload]
  refine (if_neg (not_not_intro rfl)).trans ((if_neg outside).trans ((if_neg fits).trans ?_))
  rw [byteOf_toNat, byteOf_toNat, byteOf_toNat]
  rfl

/-- Settles O33: the places read are successive, with wrap. -/
theorem configReadReportsItemsWithWrap : Obligations.ConfigReadReportsItemsWithWrap := by
  unfold Obligations.ConfigReadReportsItemsWithWrap
  intro tag table index count s ready outside known within low high
  refine ⟨_, ?_, answer_replied 7 tag [table, index, count] s.timeBase .ok _ s, rfl⟩
  rw [exec_request (c := .configRead tag [table, index, count]) rfl, request_ready ready, serve_configRead rfl,
    serveConfigRead_ok rfl outside known within low high, readItems_eq s within]
  rfl

/-! ## The values that CONFIG WRITE stores (R179) -/

/-- Values take successive places of a table, a later one standing where two meet. -/
def storeItems (place : Nat → Nat) (value : Nat → Int) (m : Nat) (items : List Int) : List Int :=
  (List.range m).foldl (fun items j => items.set (place j) (value j)) items

theorem storeItems_cons (place : Nat → Nat) (value : Nat → Int) (m : Nat) (items : List Int) :
    storeItems place value (m + 1) items =
      storeItems (fun j => place (j + 1)) (fun j => value (j + 1)) m (items.set (place 0) (value 0)) := by
  rw [storeItems, List.range_succ_eq_map, List.foldl_cons, List.foldl_map]
  rfl

theorem storeItems_succ (place : Nat → Nat) (value : Nat → Int) (m : Nat) (items : List Int) :
    storeItems place value (m + 1) items = (storeItems place value m items).set (place m) (value m) := by
  rw [storeItems, List.range_succ, List.foldl_append]
  rfl

theorem length_storeItems (place : Nat → Nat) (value : Nat → Int) (m : Nat) (items : List Int) :
    (storeItems place value m items).length = items.length := by
  induction m with
  | zero => rfl
  | succ m ih => rw [storeItems_succ, List.length_set, ih]

/-- What stands at a place is the last value stored there. -/
theorem getD_storeItems (place : Nat → Nat) (value : Nat → Int) (m : Nat) {items : List Int} {i : Nat}
    (within : i < items.length) :
    (storeItems place value m items).getD i 0 =
      ((List.range m).reverse.find? fun j => place j == i).elim (items.getD i 0) value := by
  induction m with
  | zero => rfl
  | succ m ih =>
    rw [storeItems_succ, List.range_succ, List.reverse_append, List.reverse_singleton, List.singleton_append, List.find?_cons,
      List.getD_eq_getElem?_getD, List.getElem?_set]
    by_cases same : place m = i
    · simp [same, length_storeItems, within]
    · rw [if_neg same, ← List.getD_eq_getElem?_getD, ih, beq_eq_false_iff_ne.2 same]

theorem getD_modify_self (g : List Int → List Int) {tables : List (List Int)} {k : Nat} (within : k < tables.length) :
    (tables.modify k g).getD k [] = g (tables.getD k []) := by
  rw [List.getD_eq_getElem?_getD, List.getElem?_modify_eq, List.getElem?_eq_getElem within, List.getD_eq_getElem?_getD,
    List.getElem?_eq_getElem within]
  rfl

theorem getD_modify_of_ne (g : List Int → List Int) (tables : List (List Int)) {k table : Nat} (other : k ≠ table) :
    (tables.modify table g).getD k [] = tables.getD k [] := by
  rw [List.getD_eq_getElem?_getD, List.getElem?_modify_ne _ _ other.symm, List.getD_eq_getElem?_getD]

/-- The `j`-th value of a CONFIG WRITE, as the item at its place spells it (R173, R175). -/
def sentValue (table index : Nat) (bytes : List Byte) (j : Nat) : Int :=
  itemValue table (itemPlace table index j) (byteAt bytes (2 * j)) (byteAt bytes (2 * j + 1))

/-- The `j`-th value lies in the range of the item at its place (R179). -/
def sentAdmitted (table index : Nat) (bytes : List Byte) (j : Nat) : Bool :=
  itemAdmits table (itemPlace table index j) (sentValue table index bytes j)

/-- How many of `n` values come before the first out of range (R179). -/
def sentInRange (table index : Nat) (bytes : List Byte) (n : Nat) : Nat :=
  ((List.range n).takeWhile (sentAdmitted table index bytes)).length

/-- The first `m` values of a CONFIG WRITE stand at their places (R179). -/
def storeSent (table index : Nat) (bytes : List Byte) (m : Nat) (s : State) : State :=
  { s with tables := s.tables.modify table (storeItems (itemPlace table index) (sentValue table index bytes) m) }

section
variable {table index : Nat}

theorem storeSent_zero (bytes : List Byte) (s : State) : storeSent table index bytes 0 s = s := by
  have none : storeItems (itemPlace table index) (sentValue table index bytes) 0 = id := rfl
  rw [storeSent, none, List.modify_id]

theorem sentValue_zero (within : index < itemCount table) (bytes : List Byte) :
    sentValue table index bytes 0 = itemValue table index (byteAt bytes 0) (byteAt bytes 1) := by
  rw [sentValue, itemPlace_zero within]

theorem sentValue_next (bytes : List Byte) (j : Nat) :
    sentValue table ((index + 1) % itemCount table) (bytes.drop 2) j = sentValue table index bytes (j + 1) := by
  have shifted : ∀ i, byteAt (bytes.drop 2) i = byteAt bytes (2 + i) := fun i => by
    rw [byteAt, byteAt, List.getD_eq_getElem?_getD, List.getElem?_drop, List.getD_eq_getElem?_getD]
  rw [sentValue, sentValue, itemPlace_next, shifted, shifted, Nat.mul_succ, Nat.add_comm 2, Nat.add_left_comm 2,
    Nat.add_comm 2, Nat.add_assoc]

theorem sentAdmitted_next (bytes : List Byte) (j : Nat) :
    sentAdmitted table ((index + 1) % itemCount table) (bytes.drop 2) j = sentAdmitted table index bytes (j + 1) := by
  rw [sentAdmitted, sentValue_next, itemPlace_next, sentAdmitted]

theorem sentInRange_succ (bytes : List Byte) (n : Nat) :
    sentInRange table index bytes (n + 1) =
      if sentAdmitted table index bytes 0 = true then
        sentInRange table ((index + 1) % itemCount table) (bytes.drop 2) n + 1
      else 0 := by
  have next : sentAdmitted table index bytes ∘ Nat.succ =
      sentAdmitted table ((index + 1) % itemCount table) (bytes.drop 2) :=
    funext fun j => (sentAdmitted_next bytes j).symm
  rw [sentInRange, List.range_succ_eq_map, List.takeWhile_cons, List.takeWhile_map, next]
  split
  · rw [List.length_cons, List.length_map, sentInRange]
  · rfl

/-- The first value is stored, and the others behind it. -/
theorem storeSent_setItem (within : index < itemCount table) (bytes : List Byte) (m : Nat) (s : State) :
    storeSent table ((index + 1) % itemCount table) (bytes.drop 2) m
        (setItem table index (itemValue table index (byteAt bytes 0) (byteAt bytes 1)) s) =
      storeSent table index bytes (m + 1) s := by
  have stored : storeItems (itemPlace table index) (sentValue table index bytes) (m + 1) =
      storeItems (itemPlace table ((index + 1) % itemCount table))
          (sentValue table ((index + 1) % itemCount table) (bytes.drop 2)) m ∘
        fun items => items.set index (itemValue table index (byteAt bytes 0) (byteAt bytes 1)) := by
    funext items
    rw [Function.comp_apply, storeItems_cons, itemPlace_zero within, sentValue_zero within,
      funext (itemPlace_next table index), funext (sentValue_next bytes)]
  rw [storeSent, storeSent, setItem, stored, List.modify_modify_eq]

/-- The values before the first out of range are stored at their places, and nothing else changes (R179). -/
theorem writeItems_eq (within : index < itemCount table) (n : Nat) (bytes : List Byte) (s : State) :
    writeItems table n index bytes s =
      (storeSent table index bytes (sentInRange table index bytes n) s, sentInRange table index bytes n,
        decide (sentInRange table index bytes n = n)) := by
  induction n generalizing index bytes s with
  | zero =>
    rw [sentInRange, List.range_zero, List.takeWhile_nil, List.length_nil, storeSent_zero]
    rfl
  | succ n ih =>
    have first : sentAdmitted table index bytes 0 =
        itemAdmits table index (itemValue table index (byteAt bytes 0) (byteAt bytes 1)) := by
      rw [sentAdmitted, sentValue_zero within, itemPlace_zero within]
    rw [writeItems, sentInRange_succ, first]
    dsimp only
    split
    · rw [ih (next_lt_itemCount within), storeSent_setItem within]
      simp only [Nat.add_right_cancel_iff]
    · rw [storeSent_zero]
      rfl

end

/-! ## CONFIG WRITE (R179) -/

section
variable {f : LinkFrame} {s : State} {table index : Byte} {bytes : List Byte} {n : Nat}

/-- A CONFIG WRITE of one to 64 values in STANDBY comes to the check of its place (R173, R179). -/
theorem serveConfigWrite_standby (payload : f.payload = table :: index :: bytes) (length : bytes.length = 2 * n)
    (low : 1 ≤ n) (high : n ≤ 64) (standby : s.mode = .standby) :
    serveConfigWrite f s =
      if badItemPlace table.toNat index.toNat then answer f .badField [0] s
      else
        answer f (if (writeItems table.toNat n index.toNat bytes s).2.2 then .ok else .badField)
          [byteOf (writeItems table.toNat n index.toNat bytes s).2.1] (writeItems table.toNat n index.toNat bytes s).1 := by
  have whole : f.payload.length = 2 * n + 2 := by rw [payload, List.length_cons, List.length_cons, length]
  have fits : ¬ (f.payload.length < 4 ∨ 130 < f.payload.length ∨ f.payload.length % 2 = 1) := by omega
  have values : (f.payload.length - 2) / 2 = n := by omega
  rw [serveConfigWrite, if_neg fits, if_neg (not_not_intro standby), values, payload]
  rfl

theorem serveConfigWrite_badPlace (payload : f.payload = table :: index :: bytes) (length : bytes.length = 2 * n)
    (low : 1 ≤ n) (high : n ≤ 64) (standby : s.mode = .standby)
    (bad : 7 < table.toNat ∨ itemCount table.toNat ≤ index.toNat) :
    serveConfigWrite f s = answer f .badField [0] s := by
  rw [serveConfigWrite_standby payload length low high standby, if_pos]
  rwa [badItemPlace, Bool.or_eq_true, decide_eq_true_eq, decide_eq_true_eq]

theorem serveConfigWrite_stores (payload : f.payload = table :: index :: bytes) (length : bytes.length = 2 * n)
    (low : 1 ≤ n) (high : n ≤ 64) (standby : s.mode = .standby) (known : table.toNat ≤ 7)
    (within : index.toNat < itemCount table.toNat) :
    serveConfigWrite f s =
      answer f (if sentInRange table.toNat index.toNat bytes n = n then .ok else .badField)
        [byteOf (sentInRange table.toNat index.toNat bytes n)]
        (storeSent table.toNat index.toNat bytes (sentInRange table.toNat index.toNat bytes n) s) := by
  rw [serveConfigWrite_standby payload length low high standby, badItemPlace_eq_false known within, writeItems_eq within]
  simp only [Bool.false_eq_true, if_false, decide_eq_true_eq]

end

theorem length_flatMap_pairs (values : List (Byte × Byte)) :
    (values.flatMap fun v => [v.1, v.2]).length = 2 * values.length := by
  induction values with
  | nil => rfl
  | cons v values ih =>
    rw [List.flatMap_cons, List.length_append, ih, List.length_cons (a := v), Nat.mul_succ]
    exact Nat.add_comm 2 _

/-- The bytes of a list of values, two for each. -/
theorem byteAt_flatMap_pairs (values : List (Byte × Byte)) (j : Nat) :
    byteAt (values.flatMap fun v => [v.1, v.2]) (2 * j) = (values.getD j (0, 0)).1 ∧
      byteAt (values.flatMap fun v => [v.1, v.2]) (2 * j + 1) = (values.getD j (0, 0)).2 := by
  induction values generalizing j with
  | nil => exact ⟨rfl, rfl⟩
  | cons v values ih =>
    cases j with
    | zero => exact ⟨rfl, rfl⟩
    | succ j => exact ih j

theorem itemAdmits_eq (table index : Nat) (value : Int) :
    itemAdmits table index value =
      (tableSpec table)[index]?.any fun item => decide (item.lo ≤ value ∧ value ≤ item.hi) := by
  unfold itemAdmits
  cases (tableSpec table)[index]? with
  | none => rfl
  | some item => exact (Bool.decide_and _ _).symm

theorem itemSigned_iff (table : Byte) (i : Nat) : itemSigned table.toNat i = true ↔ table = 0 ∧ i < 2 := by
  have zero : table.toNat = 0 ↔ table = 0 := ⟨BitVec.eq_of_toNat_eq (y := 0), fun e => by rw [e]; rfl⟩
  rw [itemSigned, Bool.and_eq_true, beq_iff_eq, decide_eq_true_eq, zero]

theorem length_of_valuesAdmitted {specs : List ItemSpec} {values : List Int} (h : valuesAdmitted specs values = true) :
    values.length = specs.length := by
  induction specs generalizing values with
  | nil =>
    cases values with
    | nil => rfl
    | cons value values => cases h
  | cons spec specs ih =>
    cases values with
    | nil => cases h
    | cons value values => exact congrArg Nat.succ (ih (Bool.and_eq_true_iff.1 h).2)

/-- An item of the written table is the last value stored at its place, or what it was (R179). -/
theorem item_storeSent {s : State} (calibration : CalibrationLaw s) {table : Nat} (known : table ≤ 7) (index : Nat)
    (bytes : List Byte) (m : Nat) {i : Nat} (within : i < itemCount table) :
    (storeSent table index bytes m s).item table i =
      ((List.range m).reverse.find? fun j => itemPlace table index j == i).elim (s.item table i)
        (sentValue table index bytes) := by
  obtain ⟨eight, admitted⟩ := calibration
  have length := length_of_valuesAdmitted (admitted table (Nat.lt_succ_of_le known))
  rw [State.item, storeSent, getD_modify_self _ (by omega), getD_storeItems _ _ _ (length.symm ▸ within)]
  rfl

/-- Settles O32: what `writeItems` stores, item by item. -/
theorem configWriteStoresUpToTheFirstOutOfRange : Obligations.ConfigWriteStoresUpToTheFirstOutOfRange := by
  unfold Obligations.ConfigWriteStoresUpToTheFirstOutOfRange
  intro tag table index values s ready standby calibration low high payload count place value passes written
  let bytes := values.flatMap fun v => [v.1, v.2]
  have length : bytes.length = 2 * values.length := length_flatMap_pairs values
  have valueEq : sentValue table.toNat index.toNat bytes = value := by
    funext j
    obtain ⟨high, low⟩ := byteAt_flatMap_pairs values j
    rw [sentValue, itemValue, high, low]
    by_cases signed : table = 0 ∧ place j < 2
    · exact (if_pos ((itemSigned_iff table (place j)).2 signed)).trans (if_pos signed).symm
    · exact (if_neg fun holds => signed ((itemSigned_iff table (place j)).1 holds)).trans (if_neg signed).symm
  have passesEq : sentAdmitted table.toNat index.toNat bytes = passes := by
    funext j
    rw [sentAdmitted, valueEq, itemAdmits_eq]
    change (tableSpec table.toNat)[place j]?.any (fun item => decide (item.lo ≤ value j ∧ value j ≤ item.hi)) = passes j
    simp only [passes]
    cases (tableSpec table.toNat)[place j]? <;> rfl
  have writtenEq : sentInRange table.toNat index.toNat bytes values.length = written := by
    rw [sentInRange, passesEq]
  refine ⟨fun bad => ?_, fun known within => ?_⟩
  · exact exec_refused (c := .configWrite tag payload) rfl ready fun receipt =>
      (serve_configWrite rfl s).trans (serveConfigWrite_badPlace (bytes := bytes) rfl length low high standby bad)
  · have stored := serveConfigWrite_stores
      (f := { type := 6, tag, payload, receipt := s.timeBase }) (bytes := bytes) rfl length low high standby known within
    rw [writtenEq] at stored
    refine ⟨answer { type := 6, tag, payload, receipt := s.timeBase } (if written = values.length then .ok else .badField)
      [byteOf written] (storeSent table.toNat index.toNat bytes written s), ?_, answer_replied .., fun i inTable => ?_,
      fun k other => getD_modify_of_ne _ _ other, rfl⟩
    · rw [exec_request (c := .configWrite tag payload) rfl, request_ready ready, serve_configWrite rfl, stored]
    · refine (item_storeSent calibration known index.toNat bytes written inTable).trans ?_
      rw [valueEq]
      change ((List.range written).reverse.find? fun j => place j == i).elim (s.item table.toNat i) value = _
      cases (List.range written).reverse.find? fun j => place j == i <;> rfl

end Sys2Proof.Machine
end

section
/-! PROOFS. The Fault Unit: what is latched, counted and reported (R181 to R184). -/

namespace Sys2Proof.Machine

/-! ## Latching (R181) -/

section
variable {kind : FaultKind} {subject : Nat} {s : State}

/-- The fault list has a record of a pair of kind and subject. -/
abbrev Listed (kind : FaultKind) (subject : Nat) (s : State) : Prop :=
  ∃ r ∈ s.faults, r.kind = kind ∧ r.subject = subject

theorem isOf_iff (r : FaultRecord) : r.isOf kind subject = true ↔ r.kind = kind ∧ r.subject = subject := by
  rw [FaultRecord.isOf, Bool.and_eq_true, decide_eq_true_iff, beq_iff_eq]

theorem any_isOf_iff : (s.faults.any fun r => r.isOf kind subject) = true ↔ Listed kind subject s := by
  simp only [List.any_eq_true, isOf_iff]

theorem latchFault_listed (known : Listed kind subject s) (now : Millis) :
    latchFault kind subject now s =
      { s with faults := s.faults.map fun r => if r.kind = kind ∧ r.subject = subject then r.again else r } := by
  rw [latchFault, if_pos (any_isOf_iff.2 known)]
  simp only [isOf_iff]

theorem latchFault_append (new : ¬ Listed kind subject s) (room : s.faults.length < 24) (now : Millis) :
    latchFault kind subject now s =
      { s with faults := s.faults ++ [{ kind, subject, firstTime := now, occurrences := 1 }] } := by
  rw [latchFault, if_neg (mt any_isOf_iff.1 new), if_pos room]

theorem latchFault_overflow (new : ¬ Listed kind subject s) (full : 24 ≤ s.faults.length) (now : Millis) :
    latchFault kind subject now s = { s with faultOverflow := true } := by
  rw [latchFault, if_neg (mt any_isOf_iff.1 new), if_neg (Nat.not_lt.2 full)]

end

/-! ## Counting (R183) -/

/-- The counters in their reporting order (R183). -/
def counterOrder : List CounterId :=
  [.linkCrcErrors, .linkFramesAbandoned, .queueFullDrops, .obsRefused, .obsTableFull, .evictions, .framesSkipped,
   .superseded .left, .superseded .right, .truncated .left, .truncated .right, .echoFailures .left, .echoFailures .right]

/-- A counter stands at its place of the order. -/
theorem getElem?_counterOrder_index (id : CounterId) : counterOrder[id.index]? = some id := by
  cases id with
  | linkCrcErrors => rfl
  | linkFramesAbandoned => rfl
  | queueFullDrops => rfl
  | obsRefused => rfl
  | obsTableFull => rfl
  | evictions => rfl
  | framesSkipped => rfl
  | superseded h => cases h <;> rfl
  | truncated h => cases h <;> rfl
  | echoFailures h => cases h <;> rfl

theorem CounterId.index_lt (id : CounterId) : id.index < 13 := by
  obtain ⟨within, _⟩ := List.getElem?_eq_some_iff.1 (getElem?_counterOrder_index id)
  exact within

/-- No two counters have one place. -/
theorem CounterId.index_injective : Function.Injective CounterId.index := fun a b same =>
  Option.some.inj (by rw [← getElem?_counterOrder_index a, same, getElem?_counterOrder_index b])

section
variable {s : State}

theorem counter_countEvent (thirteen : s.counters.length = 13) (id : CounterId) :
    (countEvent id s).counter id = (s.counter id).increment := by
  have within : id.index < s.counters.length := thirteen ▸ id.index_lt
  rw [State.counter, State.counter, countEvent, List.getD_eq_getElem?_getD, List.getElem?_modify_eq,
    List.getD_eq_getElem?_getD, List.getElem?_eq_getElem within]
  rfl

theorem counter_countEvent_of_ne {id other : CounterId} (different : other ≠ id) :
    (countEvent id s).counter other = s.counter other := by
  have places : id.index ≠ other.index := fun same => different (CounterId.index_injective same.symm)
  rw [State.counter, State.counter, countEvent, List.getD_eq_getElem?_getD, List.getElem?_modify_ne _ _ places,
    List.getD_eq_getElem?_getD]

end

/-- Settles O51: the three cases of a latch, and the counter at its place. -/
theorem faultsAndCountersRecordEvents : Obligations.FaultsAndCountersRecordEvents := by
  unfold Obligations.FaultsAndCountersRecordEvents
  refine ⟨fun kind subject now s => ⟨fun known => ?_, fun new room => ?_, fun new full => ?_⟩,
    fun id s ⟨thirteen, _⟩ => ⟨?_, ?_, rfl⟩⟩
  · exact latchFault_listed known now
  · exact latchFault_append new room now
  · exact latchFault_overflow new full now
  · exact counter_countEvent thirteen id
  · exact fun other different => counter_countEvent_of_ne different

/-! ## The counters and their flags as they are reported (R183, R184) -/

theorem map_index_counterOrder : counterOrder.map CounterId.index = List.range 13 := rfl

/-- The counters are held in their reporting order. -/
theorem counters_eq {s : State} (thirteen : s.counters.length = 13) : s.counters = counterOrder.map s.counter := by
  calc s.counters
      = (List.range 13).map fun i => s.counters.getD i { count := 0, overflow := false } := by
        refine List.ext_getElem (by rw [thirteen, List.length_map, List.length_range]) fun i within _ => ?_
        rw [List.getElem_map, List.getElem_range, List.getD_eq_getElem?_getD, List.getElem?_eq_getElem within,
          Option.getD_some]
    _ = counterOrder.map s.counter := by rw [← map_index_counterOrder, List.map_map]; rfl

theorem natOfBits_bitsOf {w : Nat} (v : BitVec w) : natOfBits (bitsOf v) = v.toNat := by
  have numbered := natOfBits_bitsOfNat w v.toNat
  rwa [bitsOfNat_eq, BitVec.ofNat_toNat, BitVec.setWidth_eq, Nat.mod_eq_of_lt v.isLt] at numbered

/-- A bit string is that of a bit vector of its length. -/
theorem exists_bitsOf_eq {w : Nat} {bits : List Bool} (length : bits.length = w) : ∃ v : BitVec w, bitsOf v = bits := by
  subst length
  exact ⟨_, bitsOf_ofBoolListBE bits⟩

/-- The overflow flags as a bit string: one for each counter, and three bits 0 behind them (R184). -/
def flagBits (counters : List Counter) : List Bool := counters.map Counter.overflow ++ [false, false, false]

theorem overflowField_eq (counters : List Counter) : overflowField counters = natOfBits (flagBits counters) := by
  rw [flagBits, natOfBits_append]
  rfl

theorem getD_flagBits_counter {s : State} (thirteen : s.counters.length = 13) {i : Nat} {id : CounterId}
    (place : counterOrder[i]? = some id) : (flagBits s.counters).getD i false = (s.counter id).overflow := by
  obtain ⟨within, _⟩ := List.getElem?_eq_some_iff.1 place
  rw [List.getD_eq_getElem?_getD, flagBits, counters_eq thirteen, List.map_map,
    List.getElem?_append_left (by rwa [List.length_map]), List.getElem?_map, place]
  rfl

theorem length_flagBits {counters : List Counter} (thirteen : counters.length = 13) : (flagBits counters).length = 16 := by
  rw [flagBits, List.length_append, List.length_map, thirteen]
  rfl

/-- A bit of a bit string, counted from the most significant. -/
theorem getMsbD_of_bitsOf {w : Nat} {v : BitVec w} {bits : List Bool} (spelled : bitsOf v = bits) (i : Nat) :
    v.getMsbD i = bits.getD i false := by
  subst spelled
  rw [List.getD_eq_getElem?_getD, getElem?_bitsOf]
  split
  · rfl
  · rename_i beyond
    exact BitVec.getMsbD_of_ge _ _ (Nat.not_lt.1 beyond)

theorem getD_flagBits_behind {counters : List Counter} (thirteen : counters.length = 13) {i : Nat} (behind : 13 ≤ i) :
    (flagBits counters).getD i false = false := by
  rw [flagBits, getD_append_right (by rwa [List.length_map, thirteen])]
  rcases i - (counters.map Counter.overflow).length with _ | _ | _ | _ <;> rfl

theorem bytes_overflowField {counters : List Counter} {flags : BitVec 16} (spelled : bitsOf flags = flagBits counters) :
    bytesOfNat16 (overflowField counters) = bigEndian 2 flags := by
  rw [overflowField_eq, ← spelled, natOfBits_bitsOf, bytesOfNat16, BitVec.ofNat_toNat, BitVec.setWidth_eq, bytes16_eq]

/-! ## The two queries, each without parameters (R171) -/

/-- A query of a kind that has no parameters is answered at once by an IDLE Request Handler (R163, R171). -/
theorem exec_query {c : Instr} {tag kind : Byte} {s : State} (row : requestOf c = some (5, tag, [kind])) (ready : Ready s)
    (known : kind.toNat ≤ 6) (bare : queryLength kind.toNat = 1) :
    exec c s = .next (answerQuery { type := 5, tag, payload := [kind], receipt := s.timeBase } kind.toNat s) := by
  rw [exec_request row, request_ready ready, serve_query rfl, serveQuery]
  dsimp only
  rw [if_neg (Nat.not_lt.2 known), bare, if_neg (show ¬ [kind].length ≠ 1 from not_not_intro rfl)]

/-- Settles O31: what the two queries report, each built before it empties what it reports. -/
theorem faultAndCounterQueriesReportThenClear : Obligations.FaultAndCounterQueriesReportThenClear := by
  unfold Obligations.FaultAndCounterQueriesReportThenClear
  intro tag s ready code order
  refine ⟨?_, fun law => ?_⟩
  · have coded : ∀ kind, code kind = byteOf kind.code := fun kind => by cases kind <;> rfl
    have flag : (if s.faultOverflow = true then 1 else 0) = byteOf s.faultOverflow.toNat := by
      cases s.faultOverflow <;> rfl
    simp only [coded, flag]
    exact exec_query (c := .queryFaults tag []) rfl ready (by decide) rfl
  · obtain ⟨thirteen, _⟩ := law
    obtain ⟨flags, spelled⟩ := exists_bitsOf_eq (length_flagBits thirteen)
    refine ⟨flags, fun i id place => ?_, fun i behind => ?_, ?_⟩
    · rw [getMsbD_of_bitsOf spelled, getD_flagBits_counter thirteen place]
    · rw [getMsbD_of_bitsOf spelled, getD_flagBits_behind thirteen behind]
    · have counts : (s.counters.flatMap fun c => bytesOfNat16 c.count) =
          order.flatMap fun id => bigEndian 2 (BitVec.ofNat 16 (s.counter id).count) := by
        rw [counters_eq thirteen, List.flatMap_map]
        rfl
      rw [← bytes_overflowField spelled, ← counts]
      exact exec_query (c := .queryCounters tag []) rfl ready (by decide) rfl

end Sys2Proof.Machine
end

section
/-! PROOFS. The fault list and the counters stay in form (R181, R183): but for RESET, no step touches them other than by
latching a fault, counting an event, and emptying what has been reported. -/

namespace Sys2Proof.Machine

/-! ## What latching keeps of the fault list (R181) -/

section
variable {s : State}

theorem faultListLaw_map_again (h : FaultListLaw s) (repeated : FaultRecord → Prop) [DecidablePred repeated] :
    FaultListLaw { s with faults := s.faults.map fun r => if repeated r then r.again else r } := by
  obtain ⟨few, distinct, counted⟩ := h
  have pairs : (s.faults.map fun r => if repeated r then r.again else r).map (fun r => (r.kind, r.subject)) =
      s.faults.map fun r => (r.kind, r.subject) := by
    rw [List.map_map]
    refine List.map_congr_left fun r _ => ?_
    dsimp only [Function.comp]
    split <;> rfl
  refine ⟨Nat.le_trans (Nat.le_of_eq (List.length_map _)) few, pairs ▸ distinct, fun r member => ?_⟩
  obtain ⟨old, listed, rfl⟩ := List.mem_map.1 member
  obtain ⟨low, high⟩ := counted old listed
  split
  · exact ⟨Nat.le_min.2 ⟨by decide, Nat.le_add_left 1 _⟩, Nat.min_le_left _ _⟩
  · exact ⟨low, high⟩

theorem faultListLaw_append (h : FaultListLaw s) {kind : FaultKind} {subject : Nat} (new : ¬ Listed kind subject s)
    (room : s.faults.length < 24) (now : Millis) :
    FaultListLaw { s with faults := s.faults ++ [{ kind, subject, firstTime := now, occurrences := 1 }] } := by
  obtain ⟨_, distinct, counted⟩ := h
  refine ⟨?_, ?_, List.forall_mem_append.2 ⟨counted, ?_⟩⟩
  · rw [List.length_append]
    exact room
  · rw [List.map_append]
    refine List.nodup_append.2 ⟨distinct, List.pairwise_singleton _ _, fun _ old _ added same => new ?_⟩
    obtain ⟨r, listed, rfl⟩ := List.mem_map.1 old
    have pair : (r.kind, r.subject) = (kind, subject) := same.trans (List.mem_singleton.1 added)
    exact ⟨r, listed, congrArg Prod.fst pair, congrArg Prod.snd pair⟩
  · rw [List.forall_mem_singleton]
    exact ⟨Nat.le_refl 1, (by decide : 1 ≤ 255)⟩

theorem faultListLaw_latchFault (h : FaultListLaw s) (kind : FaultKind) (subject : Nat) (now : Millis) :
    FaultListLaw (latchFault kind subject now s) := by
  by_cases known : Listed kind subject s
  · rw [latchFault_listed known]
    exact faultListLaw_map_again h _
  · by_cases room : s.faults.length < 24
    · rw [latchFault_append known room]
      exact faultListLaw_append h known room now
    · rw [latchFault_overflow known (Nat.not_lt.1 room)]
      exact h

/-! ## What counting keeps of the counters (R183) -/

theorem count_increment_le {c : Counter} (h : c.count ≤ 65535) : c.increment.count ≤ 65535 := by
  unfold Counter.increment
  split
  · assumption
  · exact h

theorem counterLaw_countEvent (h : CounterLaw s) (id : CounterId) : CounterLaw (countEvent id s) := by
  obtain ⟨thirteen, inRange⟩ := h
  refine ⟨(List.length_modify ..).trans thirteen, fun c member => ?_⟩
  obtain ⟨i, place⟩ := List.mem_iff_getElem?.1 member
  rw [countEvent, List.getElem?_modify] at place
  obtain ⟨old, held, rfl⟩ := Option.map_eq_some_iff.1 place
  have fits := inRange old (List.mem_of_getElem? held)
  split
  · exact count_increment_le fits
  · exact fits

end

/-! ## The two laws together -/

/-- The fault list and the counters of a state are in form (R181, R183). -/
abbrev RecordsInForm (s : State) : Prop := FaultListLaw s ∧ CounterLaw s

theorem recordsInForm_reset (strap : Bool) (pending : List Instr) (ties : Nat) :
    RecordsInForm { State.reset with trafficSideHigh := strap, pending, ties } :=
  (by decide : RecordsInForm State.reset)

section
variable {s t : State}

theorem RecordsInForm.link (h : RecordsInForm s) (only : OnlyLink s t) : RecordsInForm t := by
  unfold OnlyLink at only; rw [only]; exact h

theorem RecordsInForm.latch (h : RecordsInForm s) (kind : FaultKind) (subject : Nat) :
    RecordsInForm (latch kind subject s) :=
  ⟨faultListLaw_latchFault h.1 kind subject s.timeBase, by rw [Machine.latch, latchFault_only]; exact h.2⟩

theorem RecordsInForm.latchIf (h : RecordsInForm s) (condition : Bool) (kind : FaultKind) (subject : Nat) :
    RecordsInForm (latchIf condition kind subject s) := by
  unfold Machine.latchIf
  split
  · exact h.latch _ _
  · exact h

theorem RecordsInForm.count (h : RecordsInForm s) (id : CounterId) : RecordsInForm (countEvent id s) :=
  ⟨h.1, counterLaw_countEvent h.2 id⟩

theorem RecordsInForm.emptyFaults (h : RecordsInForm s) : RecordsInForm (emptyFaults s) :=
  ⟨(by decide : FaultListLaw State.reset), h.2⟩

theorem RecordsInForm.clearCounters (h : RecordsInForm s) : RecordsInForm (clearCounters s) :=
  ⟨h.1, (by decide : CounterLaw State.reset)⟩

/-! ## The Link Sequencer -/

theorem RecordsInForm.setHead (h : RecordsInForm s) (k : Head) (hs : HeadState) : RecordsInForm (s.setHead k hs) := by
  cases k <;> exact h

theorem RecordsInForm.answerHeld (h : RecordsInForm s) (status : Status) (part : List Byte) :
    RecordsInForm (answerHeld status part s) := by
  rw [answerHeld_only]; exact h

/-- A grant counts nothing. -/
theorem RecordsInForm.arbitrate (h : RecordsInForm s) : RecordsInForm (arbitrate s) := by
  unfold Machine.arbitrate
  split
  · split <;> exact h
  · split
    · unfold grantHead
      split
      · exact h
      · exact h.setHead _ _
    · exact h

theorem RecordsInForm.requestArrived (h : RecordsInForm s) : RecordsInForm (requestArrived s) := by
  unfold Machine.requestArrived
  split
  · exact h.arbitrate
  · exact h

/-- A frame that supersedes another is counted (R102). -/
theorem RecordsInForm.stageFrame (h : RecordsInForm s) (k : Head) (levels : List Nat) :
    RecordsInForm (stageFrame k levels s) := by
  have counted : RecordsInForm (if (s.head k).staged.isSome then countEvent (.superseded k) s else s) := by
    split
    · exact h.count _
    · exact h
  exact (counted.setHead k _).requestArrived

theorem RecordsInForm.endTransfer (h : RecordsInForm s) (k : Head) : RecordsInForm (endTransfer k s) :=
  RecordsInForm.arbitrate (s := { s.setHead k { s.head k with live := none } with grant := .none }) (h.setHead k _)

/-- A truncated transfer is counted (R122). -/
theorem RecordsInForm.continueTransfer (h : RecordsInForm s) (k : Head) : RecordsInForm (continueTransfer k s) := by
  have sent : RecordsInForm { s with progress := s.progress + 1 } := h
  unfold Machine.continueTransfer
  dsimp only
  split
  · exact sent.endTransfer k
  · split
    · exact ((sent.setHead k _).count (.truncated k)).endTransfer k
    · exact h

theorem RecordsInForm.nodeOutcome (h : RecordsInForm s) (id : Nat) (o : ExchangeOutcome) :
    RecordsInForm (nodeOutcome id o s) := by
  have recorded : ∀ r, RecordsInForm (setNode id r s) := fun _ => h
  unfold Machine.nodeOutcome
  dsimp only
  split
  · exact h
  · split
    · exact (((recorded _).latchIf _ _ _).latchIf _ _ _).latchIf _ _ _
    · exact h
    · exact (recorded _).latchIf _ _ _

theorem RecordsInForm.countFailure (h : RecordsInForm s) (port : Head) (o : ExchangeOutcome) :
    RecordsInForm (countFailure port o s) := by
  unfold Machine.countFailure
  split
  · exact h.count _
  · exact h

theorem RecordsInForm.completeExchange (h : RecordsInForm s) (x : Exchange) (o : ExchangeOutcome) :
    RecordsInForm (completeExchange x o s) := by
  have judged := (RecordsInForm.nodeOutcome (s := { s with exchange := none }) h x.node o).countFailure x.port o
  unfold Machine.completeExchange
  dsimp only
  split
  · exact judged.continueTransfer _
  · exact (RecordsInForm.answerHeld
      (s := { Machine.countFailure x.port o (Machine.nodeOutcome x.node o { s with exchange := none }) with
        grant := .none, passThrough := none }) judged _ _).arbitrate
  · exact judged

theorem RecordsInForm.failExchange (h : RecordsInForm s) : RecordsInForm (failExchange s) := by
  unfold Machine.failExchange
  split
  · exact h
  · exact h.completeExchange _ _

theorem RecordsInForm.finishBlock (h : RecordsInForm s) : RecordsInForm (finishBlock s) := by
  unfold Machine.finishBlock
  split <;> exact h

/-- An echo byte touches the records only where it completes the exchange (R116). -/
theorem RecordsInForm.receiveEchoBody (h : RecordsInForm s) (x : Exchange) (ended : Nat) (bytes : List Byte) :
    RecordsInForm (receiveEchoBody x ended bytes s) := by
  unfold Machine.receiveEchoBody
  split
  · exact h
  · exact h
  · split
    · exact h.completeExchange _ _
    · exact h

theorem RecordsInForm.receiveEchoInput (h : RecordsInForm s) (port : Head) (input : LineInput) (stopLow : Bool) :
    RecordsInForm (receiveEchoInput port input stopLow s) := by
  cases input with
  | startBit =>
    unfold Machine.receiveEchoInput beginEchoByte
    dsimp only
    repeat' split
    all_goals exact h
  | byte b =>
    unfold Machine.receiveEchoInput receiveEchoByte
    dsimp only
    split
    · exact h
    · split
      · exact h
      · split
        · exact h
        · split <;> exact h
        · split
          · exact h
          · exact h.receiveEchoBody _ _ _
        · exact h

/-! ## The Composer and the frame clock -/

/-- A frame start that finds a composition in flight is counted (R84). -/
theorem RecordsInForm.frameClock (h : RecordsInForm s) : RecordsInForm (frameClock s) := by
  have moved : RecordsInForm { s with framePhase := s.framePhase.map (· + millis s.framePeriod) } := h
  unfold Machine.frameClock takeFrameStart
  split
  · split
    · exact moved.count _
    · exact h
  · split
    · exact moved.count _
    · exact h
  · unfold stageDirectFrames
    exact List.foldlRecOn (motive := RecordsInForm) _ _ moved fun t ht k _ => ht.stageFrame k _
  · exact h
  · exact h

theorem RecordsInForm.endHeadStage (h : RecordsInForm s) (c : Composition) (k : Head) (rest : List Head) :
    RecordsInForm (endHeadStage c k rest s) := by
  have applied : RecordsInForm
      { s.setHead k { s.head k with applied := composedLevels s c k (compositionShadows s c k) } with
        composition := some (c.composed k (compositionShadows s c k) rest) } := h.setHead k _
  have staged := applied.stageFrame k (composedLevels s c k (compositionShadows s c k))
  unfold Machine.endHeadStage
  dsimp only
  split <;> exact staged

theorem RecordsInForm.finishHeadStage (h : RecordsInForm s) : RecordsInForm (finishHeadStage s) := by
  unfold Machine.finishHeadStage
  split
  · exact h
  · split
    · exact h
    · exact h.endHeadStage _ _ _

/-! ## Modes -/

theorem RecordsInForm.abortDirect (h : RecordsInForm s) : RecordsInForm (abortDirect s) :=
  (RecordsInForm.latch (s := teardown s) h .directAborted 0).answerHeld _ _

theorem RecordsInForm.recoverIfSeen (h : RecordsInForm s) : RecordsInForm (recoverIfSeen s) := by
  unfold Machine.recoverIfSeen
  split <;> exact h

theorem RecordsInForm.afterSceneAccepted (h : RecordsInForm s) : RecordsInForm (afterSceneAccepted s) := by
  unfold Machine.afterSceneAccepted
  split
  · exact h
  · exact h
  · exact h
  · exact RecordsInForm.recoverIfSeen (s := { s with sceneSeen := true }) h
  · split
    · exact h.abortDirect
    · exact h

theorem RecordsInForm.afterTrackAccepted (h : RecordsInForm s) : RecordsInForm (afterTrackAccepted s) := by
  unfold Machine.afterTrackAccepted
  split
  · exact h
  · exact RecordsInForm.recoverIfSeen (s := { s with trackSeen := true }) h
  all_goals exact h

theorem RecordsInForm.sceneTimerExpired (h : RecordsInForm s) : RecordsInForm (sceneTimerExpired s) := by
  unfold Machine.sceneTimerExpired
  split
  · exact h.latch .sceneLost 0
  · exact h.abortDirect
  all_goals exact h

theorem RecordsInForm.trackTimerExpired (h : RecordsInForm s) : RecordsInForm (trackTimerExpired s) := by
  unfold Machine.trackTimerExpired
  split
  · exact h.latch .trackLost 0
  all_goals exact h

/-! ## The Calibration Store -/

theorem RecordsInForm.judgeGroup (h : RecordsInForm s) (image : List Byte) (g : Nat) :
    RecordsInForm (judgeGroup image s g) := by
  unfold Machine.judgeGroup
  split
  · exact h
  · split
    · exact h
    · exact h.latch _ _

theorem RecordsInForm.loadImage (h : RecordsInForm s) (image : List Byte) : RecordsInForm (loadImage image s) :=
  List.foldlRecOn (motive := RecordsInForm) (List.range 8) (Machine.judgeGroup image)
    (b := { s with holdingBuffer := image }) h fun _ ht g _ => ht.judgeGroup image g

theorem RecordsInForm.failAutoload (h : RecordsInForm s) : RecordsInForm (failAutoload s) :=
  RecordsInForm.latch (s := { s with holdingBuffer := [], tables := defaultTables }) h .calAbsent 0

/-! ## Requests -/

theorem RecordsInForm.serveScene (h : RecordsInForm s) (f : LinkFrame) : RecordsInForm (serveScene f s) := by
  unfold Machine.serveScene
  split
  · exact h
  · split
    · exact h
    · exact RecordsInForm.afterSceneAccepted (s := { s with scene := (takeScene f.payload s.timeBase s.scene).1 }) h

/-- Observations that are refused, find the table full or evict an entry are counted (R30, R33, R34). -/
theorem RecordsInForm.admitNew (h : RecordsInForm s) (x : Exposure) (o : Observation) :
    RecordsInForm (admitNew x o s).1 := by
  unfold Machine.admitNew
  split
  · exact h.count _
  · split
    · exact h
    · split
      · exact RecordsInForm.count (s := setSlot _ _ s) h _
      · exact h.count _

theorem RecordsInForm.observe (h : RecordsInForm s) (x : Exposure) (o : Observation) :
    RecordsInForm (observe x o s).state := by
  unfold Machine.observe
  split
  · split
    · exact h.count _
    · unfold removeLeaving
      split <;> exact h
  · split
    · exact h.count _
    · unfold writeObservation
      split
      · split
        · exact h
        · exact h.admitNew x _
      · exact h.admitNew x _

theorem RecordsInForm.observeAll (h : RecordsInForm s) (x : Exposure) (os : List Observation) :
    RecordsInForm (observeAll x os s).1 := by
  induction os generalizing s with
  | nil => exact h
  | cons o os ih => exact ih (h.observe x o)

theorem RecordsInForm.serveTrack (h : RecordsInForm s) (f : LinkFrame) : RecordsInForm (serveTrack f s) := by
  have accepted :=
    RecordsInForm.afterTrackAccepted (s := { s with lastTrackTime := s.timeBase, trackAccepted := true }) h
  unfold Machine.serveTrack
  split
  · exact h
  · split
    · exact h
    · split
      · exact h
      · exact accepted.observeAll (trackExposure f) (parseObservations (trackCount f.payload) (f.payload.drop 4))

theorem RecordsInForm.serveDrop (h : RecordsInForm s) (f : LinkFrame) : RecordsInForm (serveDrop f s) := by
  unfold Machine.serveDrop dropEntries
  repeat' split
  all_goals exact h

/-- A change of mode on request latches and counts nothing (R145, R154). -/
theorem RecordsInForm.serveMode (h : RecordsInForm s) (f : LinkFrame) : RecordsInForm (serveMode f s) := by
  unfold Machine.serveMode modeToStandby modeToActive activate modeToDirect directIfSlow
  repeat' split
  all_goals exact h

/-- QUERY FAULTS and QUERY COUNTERS empty what they report (R182, R184). -/
theorem RecordsInForm.answerQuery (h : RecordsInForm s) (f : LinkFrame) (kind : Nat) :
    RecordsInForm (answerQuery f kind s) := by
  have answered : ∀ part, RecordsInForm (answer f .ok part s) := fun _ => h
  unfold Machine.answerQuery
  split
  · exact h
  · exact h
  · unfold Machine.queryShadows
    split <;> exact h
  · exact h
  · unfold Machine.queryLevels
    split
    · exact h
    · split <;> exact h
  · exact (answered _).emptyFaults
  · exact (answered _).clearCounters

theorem RecordsInForm.serveQuery (h : RecordsInForm s) (f : LinkFrame) : RecordsInForm (serveQuery f s) := by
  unfold Machine.serveQuery
  split
  · exact h
  · split
    · exact h
    · split
      · exact h
      · exact h.answerQuery f _

theorem RecordsInForm.serveConfigWrite (h : RecordsInForm s) (f : LinkFrame) : RecordsInForm (serveConfigWrite f s) := by
  unfold Machine.serveConfigWrite
  dsimp only
  split
  · exact h
  · split
    · exact h
    · split
      · exact h
      · rw [writeItems_only]
        exact h

theorem RecordsInForm.serveConfigRead (h : RecordsInForm s) (f : LinkFrame) : RecordsInForm (serveConfigRead f s) := by
  unfold Machine.serveConfigRead
  dsimp only
  repeat' split
  all_goals exact h

theorem RecordsInForm.serveDirectLevels (h : RecordsInForm s) (f : LinkFrame) : RecordsInForm (serveDirectLevels f s) := by
  have written : ∀ k g values, RecordsInForm (writeDirect k g values s) := fun k _ _ => h.setHead k _
  unfold Machine.serveDirectLevels
  split
  · exact h
  · split
    · exact h
    · split
      · exact h
      · split
        · exact h
        · exact written _ _ _

theorem RecordsInForm.serveNodePass (h : RecordsInForm s) (f : LinkFrame) : RecordsInForm (serveNodePass f s) := by
  unfold Machine.serveNodePass
  split
  · exact h
  · split
    · exact h
    · split
      · exact h
      · exact RecordsInForm.requestArrived (s := { s with handler := .serving f, passThrough := some f.asPass }) h

theorem RecordsInForm.serve (h : RecordsInForm s) (f : LinkFrame) : RecordsInForm (serve f s) := by
  unfold Machine.serve
  split
  · exact h.serveScene f
  · exact h.serveTrack f
  · exact h.serveDrop f
  · exact h.serveMode f
  · exact h.serveQuery f
  · exact h.serveConfigWrite f
  · exact h.serveConfigRead f
  · exact h.serveDirectLevels f
  · exact h.serveNodePass f
  · exact h

end

/-! ## Steps -/

theorem recordsInForm_keptByParts : KeptByParts RecordsInForm where
  link := fun only h => h.link only
  count := fun id h => h.count id
  reset := recordsInForm_reset
  loadImage := fun image _ h => h.loadImage image
  failAutoload := fun _ h => h.failAutoload
  serve := fun f h => h.serve f
  sceneTimerExpired := fun h => h.sceneTimerExpired
  trackTimerExpired := fun h => h.trackTimerExpired
  frameClock := fun h => h.frameClock
  finishHeadStage := fun h => h.finishHeadStage
  finishBlock := fun h => h.finishBlock
  failExchange := fun h => h.failExchange
  receiveEchoInput := fun port input stopLow h => h.receiveEchoInput port input stopLow

/-- Settles O55: the fault list and the counters are touched by latching, counting, emptying and RESET alone, and each
keeps them in form. -/
theorem stepKeepsFaultsAndCounters : Obligations.StepKeepsFaultsAndCounters := by
  unfold Obligations.StepKeepsFaultsAndCounters
  intro s t faults counters e
  exact recordsInForm_keptByParts.step ⟨faults, counters⟩ e

end Sys2Proof.Machine
end

section
/-! PROOFS. The front of the queue, and what every command keeps of the queue, the ties, the time and the strap (R5, R21,
logs 3 and 8). -/

namespace Sys2Proof.Machine

/-- Settles O1: the queue decides what a step takes. -/
theorem stepTakesTheFrontCommand : Obligations.StepTakesTheFrontCommand := by
  unfold Obligations.StepTakesTheFrontCommand
  intro c rest s front
  exact step_cons front

/-! ## What every command keeps -/

/-- The queue stays, the ties do not go back, and unless the block is reset neither does the time, nor is the strap sampled
anew. -/
abbrev ClockGoesOn (isReset : Prop) (s t : State) : Prop :=
  t.pending = s.pending ∧ s.ties ≤ t.ties ∧
    (¬ isReset → s.micros ≤ t.micros ∧ t.trafficSideHigh = s.trafficSideHigh)

theorem SameClock.goesOn {isReset : Prop} {s t : State} (h : SameClock s t) : ClockGoesOn isReset s t := by
  obtain ⟨pending, ties, micros, strap⟩ := h
  exact ⟨pending, ties.ge, fun _ => ⟨micros.ge, strap⟩⟩

theorem runTo_clockGoesOn (isReset : Prop) (n : Nat) (c : Instr) (s : State) : ClockGoesOn isReset s (runTo n c s) := by
  obtain ⟨pending, strap, micros, ties⟩ := runTo_clock n c s
  exact ⟨pending, ties, fun _ => ⟨micros, strap⟩⟩

/-- RESET keeps the queue and the ties alone (log 8). -/
theorem after_reset_clockGoesOn {isReset : Prop} (reset : isReset) (strap : Bool) (s : State) :
    ClockGoesOn isReset s (after (.reset strap) s) :=
  ⟨rfl, Nat.le_refl _, absurd reset⟩

/-- A command for a moment of the block's own is a course of moments; of the others, RESET alone starts the clock anew. -/
theorem after_clockGoesOn (c : Instr) (s : State) : ClockGoesOn (∃ strap, c = .reset strap) s (after c s) := by
  by_cases own : c ∈ ownCommands
  · rw [exec_next_iff.1 (exec_own own s)]
    exact runTo_clockGoesOn _ _ _ _
  · by_cases reset : ∃ strap, c = .reset strap
    · obtain ⟨strap, rfl⟩ := reset
      exact after_reset_clockGoesOn ⟨strap, rfl⟩ strap s
    · exact (after_clock s own fun strap e => reset ⟨strap, e⟩).goesOn

/-- Settles O3: a command leaves `after c s`, and the clock goes on in it unless the command is RESET. -/
theorem everyCommandCompletes : Obligations.EveryCommandCompletes := by
  unfold Obligations.EveryCommandCompletes
  intro c s
  obtain ⟨pending, ties, unlessReset⟩ := after_clockGoesOn c s
  exact ⟨after c s, exec_after c s, pending, ties, fun noReset => unlessReset fun ⟨strap, e⟩ => noReset strap e⟩

end Sys2Proof.Machine
end

section
/-! PROOFS. What a taken request can do: the branches of `serve` with the checks that lead to them (R164). -/

namespace Sys2Proof.Machine

/-- What each branch of `serve` leads to, under the checks before it: `P` of the state that is answered, `Q` of the state
with its reply, or with the request held. -/
structure ServedBy (P Q : State → Prop) (f : LinkFrame) (s : State) : Prop where
  answered : ∀ {t} (status : Status) (part : List Byte), P t → Q (answer f status part t)
  emptied : ∀ {t}, Q t → Q (emptyFaults t)
  cleared : ∀ {t}, Q t → Q (clearCounters t)
  unchanged : P s
  scene : s.mode ≠ .start → P (afterSceneAccepted { s with scene := (takeScene f.payload s.timeBase s.scene).1 })
  track : s.mode.composes = true → ∀ n bytes,
    P (observeAll (trackExposure f) (parseObservations n bytes)
      (afterTrackAccepted { s with lastTrackTime := s.timeBase, trackAccepted := true })).1
  drop : s.mode.composes = true → ∀ id, P (dropEntries id s).1
  teardown : s.mode = .active ∨ s.mode = .safe ∨ s.mode = .direct → P (teardown s)
  enterActive : s.mode = .standby → s.firstFailure = none → P (enterActive s)
  enterDirect : s.mode = .standby → s.firstFailure = none → s.scene.speedKnown = true →
    (s.scene.speed : Int) ≤ s.directSpeedMax → P (enterDirect s)
  write : s.mode = .standby → ∀ table n index bytes, P (writeItems table n index bytes s).1
  direct : s.mode = .direct → ∀ h g values, P (writeDirect h g values s)
  pass : s.mode = .direct → Q (holdPass f s)

namespace ServedBy

variable {P Q : State → Prop} {f : LinkFrame} {s : State} (served : ServedBy P Q f s)
include served

theorem refused (status : Status) (part : List Byte) : Q (answer f status part s) :=
  served.answered status part served.unchanged

theorem serveScene : Q (serveScene f s) := by
  unfold Machine.serveScene
  split
  · exact served.refused _ _
  · split
    · exact served.refused _ _
    · rename_i outside
      exact served.answered _ _ (served.scene outside)

theorem serveTrack : Q (serveTrack f s) := by
  unfold Machine.serveTrack
  split
  · exact served.refused _ _
  · split
    · exact served.refused _ _
    · rename_i composes
      split
      · exact served.refused _ _
      · exact served.answered _ _ (served.track (Bool.not_eq_false _ ▸ composes) _ _)

theorem serveDrop : Q (serveDrop f s) := by
  unfold Machine.serveDrop
  split
  · exact served.refused _ _
  · split
    · exact served.refused _ _
    · rename_i composes
      exact served.answered _ _ (served.drop (Bool.not_eq_false _ ▸ composes) _)

theorem modeToStandby : Q (modeToStandby f s) := by
  unfold Machine.modeToStandby
  split
  · exact served.refused _ _
  · rename_i active
    exact served.answered _ _ (served.teardown (.inl active))
  · rename_i safe
    exact served.answered _ _ (served.teardown (.inr (.inl safe)))
  · rename_i direct
    exact served.answered _ _ (served.teardown (.inr (.inr direct)))
  · exact served.refused _ _

theorem modeToActive : Q (modeToActive f s) := by
  unfold Machine.modeToActive activate
  split
  · rename_i standby
    split
    · exact served.refused _ _
    · rename_i passed
      exact served.answered _ _ (served.enterActive standby passed)
  all_goals exact served.refused _ _

theorem modeToDirect : Q (modeToDirect f s) := by
  unfold Machine.modeToDirect directIfSlow
  split
  · rename_i standby
    split
    · exact served.refused _ _
    · rename_i passed
      split
      · exact served.refused _ _
      · rename_i slow
        obtain ⟨known, low⟩ := not_or.1 slow
        exact served.answered _ _
          (served.enterDirect standby passed (Bool.not_eq_false _ ▸ known) (Int.not_lt.1 low))
  all_goals exact served.refused _ _

theorem serveMode : Q (serveMode f s) := by
  unfold Machine.serveMode
  split
  · exact served.refused _ _
  · split
    · exact served.refused _ _
    · split
      · exact served.modeToStandby
      · exact served.modeToActive
      · exact served.modeToDirect
      · exact served.refused _ _

/-- A QUERY reports, and two kinds of it empty what they have reported (R171, R182, R184). -/
theorem serveQuery : Q (serveQuery f s) := by
  unfold Machine.serveQuery
  split
  · exact served.refused _ _
  · split
    · exact served.refused _ _
    · split
      · exact served.refused _ _
      · unfold answerQuery Machine.queryShadows Machine.queryLevels
        split
        · exact served.refused _ _
        · exact served.refused _ _
        · split <;> exact served.refused _ _
        · exact served.refused _ _
        · split
          · exact served.refused _ _
          · split <;> exact served.refused _ _
        · exact served.emptied (served.refused _ _)
        · exact served.cleared (served.refused _ _)

theorem serveConfigWrite : Q (serveConfigWrite f s) := by
  unfold Machine.serveConfigWrite
  dsimp only
  split
  · exact served.refused _ _
  · split
    · exact served.refused _ _
    · rename_i standby
      split
      · exact served.refused _ _
      · exact served.answered _ _ (served.write (Decidable.not_not.1 standby) _ _ _ _)

theorem serveConfigRead : Q (serveConfigRead f s) := by
  unfold Machine.serveConfigRead
  dsimp only
  repeat' split
  all_goals exact served.refused _ _

theorem serveDirectLevels : Q (serveDirectLevels f s) := by
  unfold Machine.serveDirectLevels
  split
  · exact served.refused _ _
  · split
    · exact served.refused _ _
    · rename_i direct
      split
      · exact served.refused _ _
      · split
        · exact served.refused _ _
        · exact served.answered _ _ (served.direct (Decidable.not_not.1 direct) _ _ _)

theorem serveNodePass : Q (serveNodePass f s) := by
  unfold Machine.serveNodePass
  split
  · exact served.refused _ _
  · split
    · exact served.refused _ _
    · rename_i direct
      split
      · exact served.refused _ _
      · exact served.pass (Decidable.not_not.1 direct)

/-- A taken request is carried out by one of the branches (R164). -/
theorem serve : Q (serve f s) := by
  unfold Machine.serve
  split
  · exact served.serveScene
  · exact served.serveTrack
  · exact served.serveDrop
  · exact served.serveMode
  · exact served.serveQuery
  · exact served.serveConfigWrite
  · exact served.serveConfigRead
  · exact served.serveDirectLevels
  · exact served.serveNodePass
  · exact served.refused _ _

end ServedBy

/-! ## Predicates that the reply does not touch -/

/-- A new mode is reached from the state after it, the scene record and the timers alone: what `afterSceneAccepted` can do
(R68, R147, R153, R155). -/
theorem afterSceneAccepted_cases {P : State → Prop} {s : State} (rests : s.mode = .start ∨ s.mode = .standby → P s)
    (active : s.mode = .active → P (startSceneTimer s))
    (unseen : s.mode = .safe → s.trackSeen = false → P { s with sceneSeen := true })
    (seen : s.mode = .safe → s.trackSeen = true → P (recover { s with sceneSeen := true }))
    (slow : s.mode = .direct → (s.scene.speed : Int) ≤ s.directSpeedMax + 20 → P (startSceneTimer s))
    (fast : s.mode = .direct → P (abortDirect s)) : P (afterSceneAccepted s) := by
  unfold afterSceneAccepted
  split
  · exact rests (.inl ‹_›)
  · exact rests (.inr ‹_›)
  · exact active ‹_›
  · unfold recoverIfSeen
    split
    · rename_i safe both
      exact seen safe (by simpa using both)
    · rename_i safe both
      exact unseen safe (by simpa using both)
  · split
    · exact fast ‹_›
    · rename_i direct low
      exact slow direct (by simpa [State.tooFast] using low)

/-- What `afterTrackAccepted` can do (R22, R147, R150, R153). -/
theorem afterTrackAccepted_cases {P : State → Prop} {s : State} (other : s.mode ≠ .active → s.mode ≠ .safe → P s)
    (active : s.mode = .active → P (startTrackTimer { s with trackPending := false }))
    (unseen : s.mode = .safe → s.sceneSeen = false → P { s with trackSeen := true })
    (seen : s.mode = .safe → s.sceneSeen = true → P (recover { s with trackSeen := true })) :
    P (afterTrackAccepted s) := by
  unfold afterTrackAccepted
  split
  · exact active ‹_›
  · unfold recoverIfSeen
    split
    · rename_i safe both
      exact seen safe (by simpa using both)
    · rename_i safe both
      exact unseen safe (by simpa using both)
  all_goals
    rename_i mode
    exact other (by simp [mode]) (by simp [mode])

end Sys2Proof.Machine
end

section
/-! PROOFS. The lamp side is at rest in START and STANDBY, at every step (R41, R65, R72, R92, R105, R107, R113, R139, R144). -/

namespace Sys2Proof.Machine

/-! ## Modes at rest and the autoload -/

section
variable {s t : State}

theorem atRest_of_loading (law : AutoloadLaw s) (loading : s.autoload.isSome = true) : AtRest s :=
  .inl (of_decide_eq_true (law ▸ loading))

theorem autoload_none_of_ne_start (law : AutoloadLaw s) (started : s.mode ≠ .start) : s.autoload = none := by
  rw [← Option.isSome_eq_false_iff.trans Option.isNone_iff_eq_none, law]
  exact decide_eq_false started

theorem autoloadLaw_of_ne_start (law : AutoloadLaw s) (started : s.mode ≠ .start) (same : t.autoload = s.autoload)
    (started' : t.mode ≠ .start) : AutoloadLaw t := by
  rw [AutoloadLaw, same, autoload_none_of_ne_start law started, decide_eq_false started']
  rfl

theorem AutoloadLaw.same (law : AutoloadLaw s) (autoload : t.autoload = s.autoload) (mode : t.mode = s.mode) :
    AutoloadLaw t := by
  rw [AutoloadLaw, autoload, mode]
  exact law

theorem AtRest.same (mode : t.mode = s.mode) : AtRest t ↔ AtRest s := by rw [AtRest, AtRest, mode]

theorem not_atRest_of_composes (composes : s.mode.composes = true) : ¬ AtRest s := by
  rintro (start | standby)
  · rw [start] at composes; cases composes
  · rw [standby] at composes; cases composes

theorem not_atRest_of_mode {m : Mode} (mode : s.mode = m) (other : m ≠ .start ∧ m ≠ .standby := by decide) : ¬ AtRest s := by
  rintro (start | standby)
  · exact other.1 (mode ▸ start)
  · exact other.2 (mode ▸ standby)

theorem OnlyLamps.mode (only : OnlyLamps s t) : t.mode = s.mode := by rw [only]

theorem OnlyLamps.autoload (only : OnlyLamps s t) : t.autoload = s.autoload := by rw [only]

theorem OnlyTable.mode (only : OnlyTable s t) : t.mode = s.mode := by rw [only]

theorem OnlyTable.autoload (only : OnlyTable s t) : t.autoload = s.autoload := by rw [only]

/-! ## The law -/

/-- While the block is not at rest, the law speaks of the autoload alone. -/
theorem restLaw_of_awake (law : RestLaw s) (awake : ¬ AtRest s) (autoload : t.autoload = s.autoload) (awake' : ¬ AtRest t) :
    RestLaw t :=
  ⟨autoloadLaw_of_ne_start law.1 (fun e => awake (.inl e)) autoload (fun e => awake' (.inl e)), fun rests => absurd rests awake'⟩

/-- An operation within the mode that does nothing at rest keeps the law. -/
theorem RestLaw.sameMode (law : RestLaw s) (mode : t.mode = s.mode) (autoload : t.autoload = s.autoload)
    (idle : AtRest s → t = s) : RestLaw t := by
  by_cases rests : AtRest s
  · rw [idle rests]; exact law
  · exact restLaw_of_awake law rests autoload ((AtRest.same mode).not.2 rests)

theorem RestLaw.link (law : RestLaw s) (only : OnlyLink s t) : RestLaw t := by
  rw [only]; exact law

theorem RestLaw.faults (law : RestLaw s) (only : OnlyFaults s t) : RestLaw t := by
  rw [only]; exact law

theorem RestLaw.lamps (law : RestLaw s) (only : OnlyLamps s t) (idle : AtRest s → t = s) : RestLaw t :=
  law.sameMode only.mode only.autoload idle

theorem RestLaw.exchange_none (law : RestLaw s) (rests : AtRest s) : s.exchange = none := by
  obtain ⟨_, _, _, _, _, exchange, _⟩ := law.2 rests
  exact exchange

theorem RestLaw.composition_none (law : RestLaw s) (rests : AtRest s) : s.composition = none := by
  obtain ⟨_, _, _, _, _, _, _, composition, _⟩ := law.2 rests
  exact composition

end

/-! ## Modes -/

section
variable {s : State}

theorem restLaw_teardown (loaded : s.autoload = none) : RestLaw (teardown s) :=
  ⟨congrArg Option.isSome loaded, fun _ => ⟨rfl, rfl, rfl, rfl, rfl, rfl, rfl, rfl, rfl, rfl, rfl⟩⟩

theorem RestLaw.teardown (law : RestLaw s) (awake : ¬ AtRest s) : RestLaw (teardown s) :=
  restLaw_teardown (autoload_none_of_ne_start law.1 fun e => awake (.inl e))

/-- DIRECT ends in a teardown; the fault and the reply are not the lamp side's (R155). -/
theorem RestLaw.abortDirect (law : RestLaw s) (awake : ¬ AtRest s) : RestLaw (abortDirect s) := by
  have latched : RestLaw (latch .directAborted 0 (Machine.teardown s)) := (law.teardown awake).faults (latchFault_only _ _ _ _)
  unfold Machine.abortDirect
  rw [answerHeld_only]
  exact latched

theorem RestLaw.afterSceneAccepted (law : RestLaw s) : RestLaw (afterSceneAccepted s) :=
  afterSceneAccepted_cases (fun _ => law)
    (fun active => restLaw_of_awake law (not_atRest_of_mode active) rfl (not_atRest_of_mode active))
    (fun safe _ => restLaw_of_awake law (not_atRest_of_mode safe) rfl (not_atRest_of_mode safe))
    (fun safe _ => restLaw_of_awake law (not_atRest_of_mode safe) rfl (not_atRest_of_mode (m := .active) rfl))
    (fun direct _ => restLaw_of_awake law (not_atRest_of_mode direct) rfl (not_atRest_of_mode direct))
    (fun direct => law.abortDirect (not_atRest_of_mode direct))

theorem RestLaw.afterTrackAccepted (law : RestLaw s) : RestLaw (afterTrackAccepted s) :=
  afterTrackAccepted_cases (fun _ _ => law)
    (fun active => restLaw_of_awake law (not_atRest_of_mode active) rfl (not_atRest_of_mode active))
    (fun safe _ => restLaw_of_awake law (not_atRest_of_mode safe) rfl (not_atRest_of_mode safe))
    (fun safe _ => restLaw_of_awake law (not_atRest_of_mode safe) rfl (not_atRest_of_mode (m := .active) rfl))

/-- An accepted TRACK leaves ACTIVE and SAFE for neither START nor STANDBY. -/
theorem afterTrackAccepted_awake (awake : ¬ AtRest s) : ¬ AtRest (afterTrackAccepted s) :=
  afterTrackAccepted_cases (P := fun t => ¬ AtRest t) (fun _ _ => awake) (fun active => not_atRest_of_mode active)
    (fun safe _ => not_atRest_of_mode safe) (fun _ _ => not_atRest_of_mode (m := .active) rfl)

theorem RestLaw.enterSafe (law : RestLaw s) (awake : ¬ AtRest s) : RestLaw (enterSafe s) :=
  restLaw_of_awake law awake rfl (not_atRest_of_mode (m := .safe) rfl)

theorem RestLaw.sceneTimerExpired (law : RestLaw s) : RestLaw (sceneTimerExpired s) := by
  unfold Machine.sceneTimerExpired
  split
  · rename_i active
    have only := latchFault_only .sceneLost 0 s.timeBase s
    exact (law.faults only).enterSafe ((AtRest.same (congrArg State.mode only)).not.2 (not_atRest_of_mode active))
  · rename_i direct
    exact law.abortDirect (not_atRest_of_mode direct)
  all_goals exact law

theorem RestLaw.trackTimerExpired (law : RestLaw s) : RestLaw (trackTimerExpired s) := by
  unfold Machine.trackTimerExpired
  split
  · rename_i active
    have only := latchFault_only .trackLost 0 s.timeBase s
    exact (law.faults only).enterSafe ((AtRest.same (congrArg State.mode only)).not.2 (not_atRest_of_mode active))
  all_goals exact law

/-! ## The frame path -/

/-- A frame start does something in ACTIVE, SAFE and DIRECT alone (R84, R100). -/
theorem RestLaw.takeFrameStart (law : RestLaw s) : RestLaw (takeFrameStart s) := by
  unfold Machine.takeFrameStart
  split
  · rename_i active
    have awake : ¬ AtRest s := not_atRest_of_mode active
    split
    · exact restLaw_of_awake law awake rfl awake
    · exact restLaw_of_awake law awake rfl awake
  · rename_i safe
    have awake : ¬ AtRest s := not_atRest_of_mode safe
    split
    · exact restLaw_of_awake law awake rfl awake
    · exact restLaw_of_awake law awake rfl awake
  · rename_i direct
    exact law.lamps (stageDirectFrames_only s).lamps fun rests => absurd rests (not_atRest_of_mode direct)
  · exact law
  · exact law

theorem RestLaw.frameClock (law : RestLaw s) : RestLaw (frameClock s) :=
  takeFrameStart (s := { s with framePhase := s.framePhase.map (· + millis s.framePeriod) }) law

theorem RestLaw.finishHeadStage (law : RestLaw s) : RestLaw (finishHeadStage s) := by
  have only := (finishHeadStage_only s).lamps
  refine law.sameMode only.mode only.autoload fun rests => ?_
  rw [Machine.finishHeadStage, law.composition_none rests]

theorem RestLaw.finishBlock (law : RestLaw s) : RestLaw (finishBlock s) :=
  law.lamps (finishBlock_only s) fun rests => by rw [Machine.finishBlock, law.exchange_none rests]

theorem RestLaw.failExchange (law : RestLaw s) : RestLaw (failExchange s) :=
  law.lamps (failExchange_only s) fun rests => by rw [Machine.failExchange, law.exchange_none rests]

theorem RestLaw.receiveEchoInput (law : RestLaw s) (port : Head) (input : LineInput) (stopLow : Bool) :
    RestLaw (receiveEchoInput port input stopLow s) :=
  law.lamps (receiveEchoInput_only port input stopLow s) fun rests => by
    cases input
    · rw [Machine.receiveEchoInput, beginEchoByte, law.exchange_none rests]
    · rw [Machine.receiveEchoInput, receiveEchoByte, law.exchange_none rests]

/-! ## The Calibration Store -/

/-- The autoload ends in STANDBY, at rest as START was (R142). -/
theorem RestLaw.completeAutoload (law : RestLaw s) (loading : s.autoload.isSome = true) : RestLaw (completeAutoload s) :=
  ⟨rfl, fun _ => law.2 (atRest_of_loading law.1 loading)⟩

theorem RestLaw.failAutoload (law : RestLaw s) (loading : s.autoload.isSome = true) : RestLaw (failAutoload s) := by
  have only := latchFault_only .calAbsent 0 s.timeBase { s with holdingBuffer := [], tables := defaultTables }
  have latched : RestLaw (latch .calAbsent 0 { s with holdingBuffer := [], tables := defaultTables }) :=
    RestLaw.faults (s := { s with holdingBuffer := [], tables := defaultTables }) law only
  exact latched.completeAutoload ((congrArg (Option.isSome ∘ State.autoload) only).trans loading)

theorem RestLaw.loadImage (law : RestLaw s) (loading : s.autoload.isSome = true) (image : List Byte) :
    RestLaw (loadImage image s) := by
  obtain ⟨judged, loading'⟩ := List.foldlRecOn (motive := fun t => RestLaw t ∧ t.autoload.isSome = true) (List.range 8)
    (judgeGroup image) (b := { s with holdingBuffer := image }) ⟨law, loading⟩
    fun t ht g _ => by rw [judgeGroup_only]; exact ht
  exact judged.completeAutoload loading'

/-! ## Requests -/

/-- No request reaches the lamp side in START or STANDBY but the two entries, which leave STANDBY (R145, R148, R149). -/
theorem RestLaw.servedBy (law : RestLaw s) (f : LinkFrame) : ServedBy RestLaw RestLaw f s where
  answered _ _ kept := kept
  emptied kept := kept
  cleared kept := kept
  unchanged := law
  scene _ := afterSceneAccepted (s := { s with scene := (takeScene f.payload s.timeBase s.scene).1 }) law
  track composes n bytes := by
    have accepted : RestLaw (Machine.afterTrackAccepted { s with lastTrackTime := s.timeBase, trackAccepted := true }) :=
      afterTrackAccepted (s := { s with lastTrackTime := s.timeBase, trackAccepted := true }) law
    have awake : ¬ AtRest (Machine.afterTrackAccepted { s with lastTrackTime := s.timeBase, trackAccepted := true }) :=
      afterTrackAccepted_awake (not_atRest_of_composes composes)
    have only := observeAll_only (trackExposure f) (parseObservations n bytes)
      (Machine.afterTrackAccepted { s with lastTrackTime := s.timeBase, trackAccepted := true })
    exact restLaw_of_awake accepted awake only.autoload ((AtRest.same only.mode).not.2 awake)
  drop composes id := by
    have awake := not_atRest_of_composes composes
    unfold dropEntries
    repeat' split
    all_goals exact restLaw_of_awake law awake rfl awake
  teardown running := by
    refine law.teardown ?_
    rcases running with active | safe | direct
    · exact not_atRest_of_mode active
    · exact not_atRest_of_mode safe
    · exact not_atRest_of_mode direct
  enterActive standby _ :=
    ⟨autoloadLaw_of_ne_start law.1 (by rw [standby]; decide) rfl nofun,
      fun rests => absurd rests (not_atRest_of_mode (m := .active) rfl)⟩
  enterDirect standby _ _ _ :=
    ⟨autoloadLaw_of_ne_start law.1 (by rw [standby]; decide) rfl nofun,
      fun rests => absurd rests (not_atRest_of_mode (m := .direct) rfl)⟩
  write _ table n index bytes := by rw [writeItems_only]; exact law
  direct mode h g values := by
    have awake : ¬ AtRest s := not_atRest_of_mode mode
    cases h
    · exact restLaw_of_awake law awake rfl awake
    · exact restLaw_of_awake law awake rfl awake
  pass mode := by
    have awake : ¬ AtRest s := not_atRest_of_mode mode
    have held : RestLaw { s with
        handler := .serving f
        passThrough := some { node := (byteAt f.payload 0).toNat, bytes := f.payload.drop 1, inFlight := false } } :=
      restLaw_of_awake law awake rfl awake
    exact held.lamps (requestArrived_only _).lamps fun rests => absurd rests awake

end

/-! ## Steps -/

theorem restLaw_keptByParts : KeptByParts RestLaw where
  link only law := law.link only
  count _ law := law
  reset _ _ _ := restLaw_reset
  loadImage image loading law := law.loadImage loading image
  failAutoload loading law := law.failAutoload loading
  serve f law := (law.servedBy f).serve
  sceneTimerExpired law := law.sceneTimerExpired
  trackTimerExpired law := law.trackTimerExpired
  frameClock law := law.frameClock
  finishHeadStage law := law.finishHeadStage
  finishBlock law := law.finishBlock
  failExchange law := law.failExchange
  receiveEchoInput port input stopLow law := law.receiveEchoInput port input stopLow

/-- Settles O58: every part of a step keeps `RestLaw`. -/
theorem stepKeepsTheLampsDarkAtRest : Obligations.StepKeepsTheLampsDarkAtRest := by
  unfold Obligations.StepKeepsTheLampsDarkAtRest
  intro s t law e
  exact restLaw_keptByParts.step law e

end Sys2Proof.Machine
end

section
/-! PROOFS. The branches of a frame start and of an expiry with the checks that lead to them, and the calibration items in their
ranges at every step (R175). -/

namespace Sys2Proof.Machine

/-! ## Branches -/

theorem composes_iff {mode : Mode} : mode.composes = true ↔ mode = .active ∨ mode = .safe := by simp [composes_eq]

section
variable {P : State → Prop} {s : State}

/-- What a frame start can do (R84, R86, R100). -/
theorem takeFrameStart_cases
    (dropped : s.mode.composes = true → P (countEvent .framesSkipped s))
    (begun : s.mode.composes = true → s.composition = none → P (beginComposition s))
    (direct : s.mode = .direct → P (stageDirectFrames s)) (rests : AtRest s → P s) : P (takeFrameStart s) := by
  have taken (composes : s.mode.composes = true) :
      P (if s.composition.isSome then countEvent .framesSkipped s else beginComposition s) := by
    split
    · exact dropped composes
    · rename_i idle
      exact begun composes (Option.not_isSome_iff_eq_none.1 idle)
  unfold takeFrameStart
  split
  · rename_i active
    exact taken (by rw [active]; rfl)
  · rename_i safe
    exact taken (by rw [safe]; rfl)
  · rename_i mode
    exact direct mode
  · rename_i start
    exact rests (.inl start)
  · rename_i standby
    exact rests (.inr standby)

/-- An arbitration between the heads finds none exactly when no frame is staged (R119). -/
theorem chooseHead_eq_none : chooseHead s = none ↔ s.left.staged = none ∧ s.right.staged = none := by
  unfold chooseHead
  split
  · rename_i left right
    exact iff_of_true rfl ⟨left, right⟩
  · rename_i left right
    exact iff_of_false nofun (by simp [left])
  · rename_i left right
    exact iff_of_false nofun (by simp [right])
  · rename_i left right
    refine iff_of_false ?_ (by simp [left])
    repeat' split
    all_goals nofun

/-- The head that an arbitration finds has a frame staged (R119). -/
theorem chooseHead_staged {h : Head} (chosen : chooseHead s = some h) : ∃ f, (s.head h).staged = some f := by
  unfold chooseHead at chosen
  split at chosen
  · cases chosen
  · rename_i f left right
    cases chosen
    exact ⟨f, left⟩
  · rename_i f left right
    cases chosen
    exact ⟨f, right⟩
  · rename_i l r left right
    cases h
    · exact ⟨l, left⟩
    · exact ⟨r, right⟩

/-- What an arbitration can do (R119). -/
theorem arbitrate_cases
    (inFlight : ∀ p, s.passThrough = some p → p.inFlight = true → P s)
    (pass : ∀ p, s.passThrough = some p → p.inFlight = false → P (grantPass p s))
    (head : ∀ h f, s.passThrough = none → (s.head h).staged = some f → P (grantHead h s))
    (idle : s.passThrough = none → s.left.staged = none → s.right.staged = none → P s) : P (arbitrate s) := by
  unfold arbitrate
  split
  · rename_i p held
    split
    · rename_i granted
      exact inFlight p held granted
    · rename_i waits
      exact pass p held (Bool.not_eq_true _ ▸ waits)
  · rename_i unheld
    split
    · rename_i h chosen
      obtain ⟨f, staged⟩ := chooseHead_staged chosen
      exact head h f unheld staged
    · rename_i unchosen
      obtain ⟨left, right⟩ := chooseHead_eq_none.1 unchosen
      exact idle unheld left right

/-- A block has been sent, and its exchange is over no earlier than that (R115). -/
abbrev BlockEnded (x : Exchange) (endedAt : Nat) : Prop :=
  x.phase = .awaiting endedAt ∨ (∃ bytes silent, x.phase = .receiving endedAt bytes silent) ∨
    ∃ silent, x.phase = .failed endedAt silent

/-- What an echo-in line can bring about (R114, R115, R116). -/
theorem receiveEchoInput_cases (port : Head) (input : LineInput) (stopLow : Bool) (same : P s)
    (receiving : ∀ x endedAt bytes silent, s.exchange = some x → BlockEnded x endedAt →
      (silent = none ∨ silent = some s.micros) → P (setPhase x (.receiving endedAt bytes silent) s))
    (failed : ∀ x endedAt silent, s.exchange = some x → BlockEnded x endedAt →
      (silent = none ∨ silent = some s.micros) → P (setPhase x (.failed endedAt silent) s))
    (completed : ∀ x o, s.exchange = some x → P (completeExchange x o s)) : P (receiveEchoInput port input stopLow s) := by
  cases input with
  | startBit =>
    simp only [receiveEchoInput, beginEchoByte]
    split
    · exact same
    · rename_i x sent
      split
      · exact same
      · split
        · exact same
        · exact same
        · rename_i endedAt bytes silent phase
          exact receiving x endedAt bytes none sent (.inr (.inl ⟨_, _, phase⟩)) (.inl rfl)
        · rename_i endedAt silent phase
          exact failed x endedAt none sent (.inr (.inr ⟨_, phase⟩)) (.inl rfl)
  | byte b =>
    simp only [receiveEchoInput, receiveEchoByte]
    split
    · exact same
    · rename_i x sent
      split
      · exact same
      · split
        · exact same
        · rename_i endedAt phase
          split
          · exact receiving x endedAt [b] _ sent (.inl phase) (.inr rfl)
          · exact same
        · rename_i endedAt bytes silent phase
          have ended : BlockEnded x endedAt := .inr (.inl ⟨_, _, phase⟩)
          split
          · exact failed x endedAt _ sent ended (.inr rfl)
          · unfold receiveEchoBody
            split
            · exact receiving x endedAt _ _ sent ended (.inr rfl)
            · exact failed x endedAt _ sent ended (.inr rfl)
            · split
              · exact completed x _ sent
              · exact failed x endedAt _ sent ended (.inr rfl)
        · rename_i endedAt silent phase
          exact failed x endedAt _ sent (.inr (.inr ⟨_, phase⟩)) (.inr rfl)

/-- What the expiry of the scene timer can do (R151, R155). -/
theorem sceneTimerExpired_cases (active : s.mode = .active → P (enterSafe (latch .sceneLost 0 s)))
    (direct : s.mode = .direct → P (abortDirect s))
    (other : s.mode ≠ .active → s.mode ≠ .direct → P { s with sceneTimer := none }) : P (sceneTimerExpired s) := by
  unfold sceneTimerExpired
  split
  · rename_i mode
    exact active mode
  · rename_i mode
    exact direct mode
  all_goals
    rename_i mode
    exact other (by simp [mode]) (by simp [mode])

/-- What the expiry of the track timer can do (R151). -/
theorem trackTimerExpired_cases (active : s.mode = .active → P (enterSafe (latch .trackLost 0 s)))
    (other : s.mode ≠ .active → P { s with trackTimer := none }) : P (trackTimerExpired s) := by
  unfold trackTimerExpired
  split
  · rename_i mode
    exact active mode
  all_goals
    rename_i mode
    exact other (by simp [mode])

end

/-! ## Tables -/

section
variable {s t : State}

theorem OnlyLamps.tables (only : OnlyLamps s t) : t.tables = s.tables := by rw [only]

theorem OnlyTable.tables (only : OnlyTable s t) : t.tables = s.tables := by rw [only]

theorem latch_tables (kind : FaultKind) (subject : Nat) (s : State) : (latch kind subject s).tables = s.tables := by simp

theorem abortDirect_tables (s : State) : (abortDirect s).tables = s.tables := by
  unfold abortDirect
  rw [answerHeld_only]
  exact latch_tables _ _ (teardown s)

theorem takeFrameStart_tables (s : State) : (takeFrameStart s).tables = s.tables :=
  takeFrameStart_cases (P := fun t => t.tables = s.tables) (fun _ => rfl) (fun _ _ => rfl)
    (fun _ => (stageDirectFrames_only s).lamps.tables) (fun _ => rfl)

theorem sceneTimerExpired_tables (s : State) : (sceneTimerExpired s).tables = s.tables :=
  sceneTimerExpired_cases (P := fun t => t.tables = s.tables) (fun _ => latch_tables _ _ s)
    (fun _ => abortDirect_tables s) (fun _ _ => rfl)

theorem trackTimerExpired_tables (s : State) : (trackTimerExpired s).tables = s.tables :=
  trackTimerExpired_cases (P := fun t => t.tables = s.tables) (fun _ => latch_tables _ _ s) (fun _ => rfl)

theorem afterSceneAccepted_tables (s : State) : (afterSceneAccepted s).tables = s.tables :=
  afterSceneAccepted_cases (P := fun t => t.tables = s.tables) (fun _ => rfl) (fun _ => rfl) (fun _ _ => rfl) (fun _ _ => rfl)
    (fun _ _ => rfl) (fun _ => abortDirect_tables s)

theorem afterTrackAccepted_tables (s : State) : (afterTrackAccepted s).tables = s.tables :=
  afterTrackAccepted_cases (P := fun t => t.tables = s.tables) (fun _ _ => rfl) (fun _ => rfl) (fun _ _ => rfl)
    (fun _ _ => rfl)

/-- What DROP touches (R37). -/
theorem dropEntries_only (id : Nat) (s : State) : OnlyTable s (dropEntries id s).1 := by
  unfold dropEntries
  split
  · rfl
  · split <;> rfl

/-! ## The law -/

theorem CalibrationLaw.same (law : CalibrationLaw s) (tables : t.tables = s.tables) : CalibrationLaw t := by
  rw [CalibrationLaw, tables]
  exact law

/-- A group is loaded only when its table admits it (R178). -/
theorem CalibrationLaw.judgeGroup (law : CalibrationLaw s) (image : List Byte) (g : Nat) :
    CalibrationLaw (judgeGroup image s g) := by
  unfold Machine.judgeGroup
  split
  · exact law
  · split
    · rename_i sound
      exact TablesAdmitted.set (tables := s.tables) law (groupSound_admitted sound)
    · exact law.same (latch_tables _ _ s)

theorem CalibrationLaw.loadImage (law : CalibrationLaw s) (image : List Byte) : CalibrationLaw (loadImage image s) :=
  List.foldlRecOn (motive := CalibrationLaw) (List.range 8) (Machine.judgeGroup image) (b := { s with holdingBuffer := image })
    law fun _ judged g _ => judged.judgeGroup image g

theorem calibrationLaw_failAutoload (s : State) : CalibrationLaw (failAutoload s) :=
  CalibrationLaw.same (s := { s with holdingBuffer := [], tables := defaultTables }) tablesAdmitted_default
    (latch_tables .calAbsent 0 { s with holdingBuffer := [], tables := defaultTables })

/-- An item in range is written (R179). -/
theorem CalibrationLaw.setItem (law : CalibrationLaw s) {table index : Nat} {value : Int}
    (admits : itemAdmits table index value = true) : CalibrationLaw (setItem table index value s) := by
  unfold itemAdmits at admits
  split at admits
  · rename_i item hi
    exact TablesAdmitted.modify (tables := s.tables) law fun values admitted => valuesAdmitted_set admitted hi admits
  · cases admits

theorem CalibrationLaw.writeItems (law : CalibrationLaw s) (table n index : Nat) (bytes : List Byte) :
    CalibrationLaw (writeItems table n index bytes s).1 := by
  induction n generalizing s index bytes with
  | zero => exact law
  | succ n ih =>
    unfold Machine.writeItems
    dsimp only
    split
    · rename_i admits
      exact ih (law.setItem admits) _ _
    · exact law

theorem CalibrationLaw.servedBy (law : CalibrationLaw s) (f : LinkFrame) : ServedBy CalibrationLaw CalibrationLaw f s where
  answered _ _ kept := kept
  emptied kept := kept
  cleared kept := kept
  unchanged := law
  scene _ := law.same (afterSceneAccepted_tables { s with scene := (takeScene f.payload s.timeBase s.scene).1 })
  track _ n bytes := law.same ((observeAll_only _ _ _).tables.trans (afterTrackAccepted_tables _))
  drop _ id := law.same (dropEntries_only id s).tables
  teardown _ := law
  enterActive _ _ := law
  enterDirect _ _ _ _ := law
  write _ table n index bytes := law.writeItems table n index bytes
  direct _ h g values := law.same (by simp [writeDirect])
  pass _ := law.same (requestArrived_only _).lamps.tables

theorem calibrationLaw_keptByParts : KeptByParts CalibrationLaw where
  link only law := by rw [only]; exact law
  count _ law := law
  reset _ _ _ := tablesAdmitted_default
  loadImage image _ law := law.loadImage image
  failAutoload {s} _ _ := calibrationLaw_failAutoload s
  serve f law := (law.servedBy f).serve
  sceneTimerExpired {s} law := law.same (sceneTimerExpired_tables s)
  trackTimerExpired {s} law := law.same (trackTimerExpired_tables s)
  frameClock {s} law := law.same (takeFrameStart_tables _)
  finishHeadStage {s} law := law.same (finishHeadStage_only s).lamps.tables
  finishBlock {s} law := law.same (finishBlock_only s).tables
  failExchange {s} law := law.same (failExchange_only s).tables
  receiveEchoInput {s} port input stopLow law := law.same (receiveEchoInput_only port input stopLow s).tables

end

end Sys2Proof.Machine
end

section
/-! PROOFS. The flags, the timers, the frame clock and the autoload run in their modes alone, and DIRECT lasts only at a known
low speed (R83, R141, R142, R147, R153, R155). -/

namespace Sys2Proof.Machine

/-- What a mode says of the flags, the timers, the frame clock, the autoload and the speed. -/
structure RunsInMode (s : State) : Prop where
  modes : ModeLaw s
  speed : DirectSpeedLaw s

/-- Once known, the speed stays known (R69). -/
theorem takeScene_known (payload : List Byte) (now : Millis) {r : SceneRecord} (known : r.speedKnown = true) :
    (takeScene payload now r).1.speedKnown = true := by
  rw [takeScene_record]
  exact takeSpeed_cases (P := fun p => p.1.speedKnown = true) (fun _ => rfl) (fun _ _ => rfl) (fun _ _ => known) (fun _ _ => known)

/-- Outside DIRECT nothing is said of the speed. -/
theorem runsInMode_of_modes {s : State} (modes : ModeLaw s) (outside : s.mode ≠ .direct) : RunsInMode s :=
  ⟨modes, modes.1, fun direct => absurd direct outside⟩

theorem runsInMode_teardown {s : State} (loaded : s.autoload = none) : RunsInMode (teardown s) := by
  refine runsInMode_of_modes ⟨congrArg Option.isSome loaded, nofun, nofun, nofun, ?_, ?_, ?_⟩ nofun
  all_goals simp [teardown]

/-- The end of a DIRECT stay asks for no more than that the autoload is over (R155). -/
theorem runsInMode_abortDirect {s : State} (loaded : s.autoload = none) : RunsInMode (abortDirect s) := by
  have only := latchFault_only .directAborted 0 (teardown s).timeBase (teardown s)
  have latched : RunsInMode (latch .directAborted 0 (teardown s)) := by
    rw [latch, only]; exact ⟨(runsInMode_teardown loaded).modes, (runsInMode_teardown loaded).speed⟩
  unfold abortDirect
  rw [answerHeld_only]
  exact ⟨latched.modes, latched.speed⟩

/-- ACTIVE is entered from SAFE, whose frame clock goes on (R153). -/
theorem runsInMode_recover {s : State} (loaded : s.autoload = none) (running : s.framePhase.isSome = true) :
    RunsInMode (recover s) := by
  refine runsInMode_of_modes ⟨congrArg Option.isSome loaded, nofun, nofun, nofun, ?_, ?_, ?_⟩ nofun
  all_goals simp [recover, running]

namespace RunsInMode

variable {s t : State} (runs : RunsInMode s)
include runs

theorem lamps (only : OnlyLamps s t) : RunsInMode t := by
  rw [only]; exact ⟨runs.modes, runs.speed⟩

theorem table (only : OnlyTable s t) : RunsInMode t := by
  rw [only]; exact ⟨runs.modes, runs.speed⟩

theorem faults (only : OnlyFaults s t) : RunsInMode t := by
  rw [only]; exact ⟨runs.modes, runs.speed⟩

theorem link (only : OnlyLink s t) : RunsInMode t := by
  rw [only]; exact ⟨runs.modes, runs.speed⟩

theorem autoload_none (started : s.mode ≠ .start) : s.autoload = none := autoload_none_of_ne_start runs.modes.1 started

/-- The frame clock runs on from ACTIVE into SAFE and back (R83). -/
theorem clock_running (composes : s.mode.composes = true) : s.framePhase.isSome = true := by
  obtain ⟨_, _, _, _, _, _, clock⟩ := runs.modes
  rcases composes_iff.1 composes with active | safe
  · exact clock.2 (.inl active)
  · exact clock.2 (.inr (.inl safe))

/-! ## Modes -/

/-- SAFE is entered from ACTIVE, whose frame clock goes on (R152). -/
theorem enterSafe (active : s.mode = .active) : RunsInMode (enterSafe s) := by
  have loaded : s.autoload = none := runs.autoload_none (by simp [active])
  have running : s.framePhase.isSome = true := runs.clock_running (by rw [active]; rfl)
  refine runsInMode_of_modes ⟨congrArg Option.isSome loaded, nofun, nofun, nofun, ?_, ?_, ?_⟩ nofun
  all_goals simp [Machine.enterSafe, running]

theorem enterActive (standby : s.mode = .standby) : RunsInMode (enterActive s) := by
  refine runsInMode_of_modes ⟨?_, fun _ => rfl, nofun, nofun, ?_, ?_, ?_⟩ nofun
  · exact congrArg Option.isSome (runs.autoload_none (by simp [standby]))
  all_goals simp [Machine.enterActive]

/-- DIRECT is entered at a known speed of at most direct_speed_max (R149). -/
theorem enterDirect (standby : s.mode = .standby) (known : s.scene.speedKnown = true)
    (low : (s.scene.speed : Int) ≤ s.directSpeedMax) : RunsInMode (enterDirect s) := by
  have autoload : (Machine.enterDirect s).autoload.isSome = false :=
    congrArg Option.isSome (runs.autoload_none (by simp [standby]))
  refine ⟨⟨autoload, nofun, nofun, nofun, ?_, ?_, ?_⟩, autoload, fun _ => ⟨known, ?_⟩⟩
  · simp [Machine.enterDirect]
  · simp [Machine.enterDirect]
  · simp [Machine.enterDirect]
  · exact Int.le_trans low (by change s.directSpeedMax ≤ s.directSpeedMax + 20; omega)

theorem startSceneTimer (mode : s.mode = .active ∨ s.mode = .direct) : RunsInMode (startSceneTimer s) := by
  obtain ⟨autoload, pending, scene, track, _, trackTimer, clock⟩ := runs.modes
  exact ⟨⟨autoload, pending, scene, track, iff_of_true rfl mode, trackTimer, clock⟩, runs.speed⟩

theorem startTrackTimer (active : s.mode = .active) : RunsInMode (startTrackTimer { s with trackPending := false }) := by
  obtain ⟨autoload, _, scene, track, sceneTimer, _, clock⟩ := runs.modes
  exact ⟨⟨autoload, nofun, scene, track, sceneTimer, iff_of_true rfl active, clock⟩, runs.speed⟩

theorem stopSceneTimer (active : s.mode ≠ .active) (direct : s.mode ≠ .direct) :
    RunsInMode { s with sceneTimer := none } := by
  obtain ⟨autoload, pending, scene, track, _, trackTimer, clock⟩ := runs.modes
  exact ⟨⟨autoload, pending, scene, track, iff_of_false nofun (not_or.2 ⟨active, direct⟩), trackTimer, clock⟩, runs.speed⟩

theorem stopTrackTimer (active : s.mode ≠ .active) : RunsInMode { s with trackTimer := none } := by
  obtain ⟨autoload, pending, scene, track, sceneTimer, _, clock⟩ := runs.modes
  exact ⟨⟨autoload, pending, scene, track, sceneTimer, iff_of_false nofun active, clock⟩, runs.speed⟩

theorem sceneTimerExpired : RunsInMode (sceneTimerExpired s) :=
  sceneTimerExpired_cases
    (fun active => (runs.faults (latchFault_only .sceneLost 0 s.timeBase s)).enterSafe
      ((latch_fields .sceneLost 0 s).2.2.2.2.1.trans active))
    (fun direct => runsInMode_abortDirect (runs.autoload_none (by simp [direct])))
    (fun active direct => runs.stopSceneTimer active direct)

theorem trackTimerExpired : RunsInMode (trackTimerExpired s) :=
  trackTimerExpired_cases
    (fun active => (runs.faults (latchFault_only .trackLost 0 s.timeBase s)).enterSafe
      ((latch_fields .trackLost 0 s).2.2.2.2.1.trans active))
    (fun active => runs.stopTrackTimer active)

/-- An acceptance that sets one seen flag while the other is clear. -/
theorem seesScene (safe : s.mode = .safe) (unseen : s.trackSeen = false) : RunsInMode { s with sceneSeen := true } := by
  obtain ⟨autoload, pending, _, _, sceneTimer, trackTimer, clock⟩ := runs.modes
  exact ⟨⟨autoload, pending, fun _ => ⟨safe, unseen⟩, fun seen => absurd seen (by simp [unseen]), sceneTimer, trackTimer, clock⟩,
    runs.speed⟩

theorem seesTrack (safe : s.mode = .safe) (unseen : s.sceneSeen = false) : RunsInMode { s with trackSeen := true } := by
  obtain ⟨autoload, pending, _, _, sceneTimer, trackTimer, clock⟩ := runs.modes
  exact ⟨⟨autoload, pending, fun seen => absurd seen (by simp [unseen]), fun _ => ⟨safe, unseen⟩, sceneTimer, trackTimer, clock⟩,
    runs.speed⟩

theorem afterTrackAccepted : RunsInMode (afterTrackAccepted s) :=
  afterTrackAccepted_cases (fun _ _ => runs) (fun active => runs.startTrackTimer active)
    (fun safe unseen => runs.seesTrack safe unseen)
    (fun safe _ => runsInMode_recover (runs.autoload_none (by simp [safe])) (runs.clock_running (by rw [safe]; rfl)))

/-- A new scene record ends DIRECT unless its speed lets it last (R155). -/
theorem afterSceneAccepted {r : SceneRecord} (known : s.scene.speedKnown = true → r.speedKnown = true) :
    RunsInMode (afterSceneAccepted { s with scene := r }) := by
  have recorded (outside : s.mode ≠ .direct) : RunsInMode { s with scene := r } := runsInMode_of_modes runs.modes outside
  refine afterSceneAccepted_cases (fun rests => ?_) (fun active => ?_) (fun safe unseen => ?_) (fun safe _ => ?_)
    (fun direct slow => ?_) (fun direct => ?_)
  · exact recorded (by rcases rests with mode | mode <;> simp_all)
  · exact (recorded (by simp_all)).startSceneTimer (.inl active)
  · exact (recorded (by simp_all)).seesScene safe unseen
  · exact runsInMode_recover (runs.autoload_none (by simp_all)) (runs.clock_running (by simp_all [Mode.composes]))
  · have lasts : RunsInMode { s with scene := r } :=
      ⟨runs.modes, runs.modes.1, fun _ => ⟨known (runs.speed.2 direct).1, slow⟩⟩
    exact lasts.startSceneTimer (.inr direct)
  · exact runsInMode_abortDirect (s := { s with scene := r }) (runs.autoload_none (by simp_all))

/-! ## The frame path -/

theorem frameClock : RunsInMode (frameClock s) := by
  have next : RunsInMode { s with framePhase := s.framePhase.map (· + millis s.framePeriod) } := by
    obtain ⟨autoload, pending, scene, track, sceneTimer, trackTimer, clock⟩ := runs.modes
    exact ⟨⟨autoload, pending, scene, track, sceneTimer, trackTimer,
      by rw [Option.isSome_map]; exact clock⟩, runs.speed⟩
  exact takeFrameStart_cases (fun _ => ⟨next.modes, next.speed⟩) (fun _ _ => ⟨next.modes, next.speed⟩)
    (fun _ => next.lamps (stageDirectFrames_only _).lamps) (fun _ => next)

theorem finishHeadStage : RunsInMode (finishHeadStage s) :=
  lamps (s := { s with composition := (Machine.finishHeadStage s).composition }) ⟨runs.modes, runs.speed⟩
    (finishHeadStage_only s).lamps

/-! ## The Calibration Store -/

/-- START gives way to STANDBY: no flag, timer or clock has run (R142). -/
theorem completeAutoload (loading : s.autoload.isSome = true) : RunsInMode (completeAutoload s) := by
  obtain ⟨autoload, pending, scene, track, sceneTimer, trackTimer, clock⟩ := runs.modes
  have start : s.mode = .start := of_decide_eq_true (autoload ▸ loading)
  simp only [start, reduceCtorEq, or_self, iff_false, false_and, imp_false] at pending scene track sceneTimer trackTimer clock
  refine runsInMode_of_modes ⟨rfl, fun h => absurd h pending, fun h => absurd h scene, fun h => absurd h track, ?_, ?_, ?_⟩ nofun
  · exact iff_of_false sceneTimer (by simp [Machine.completeAutoload])
  · exact iff_of_false trackTimer (by simp [Machine.completeAutoload])
  · exact iff_of_false clock (by simp [Machine.completeAutoload])

theorem failAutoload (loading : s.autoload.isSome = true) : RunsInMode (failAutoload s) := by
  have outside : s.mode ≠ .direct := by
    rw [of_decide_eq_true (runs.modes.1 ▸ loading : decide (s.mode = .start) = true)]; decide
  have defaults : RunsInMode { s with holdingBuffer := [], tables := defaultTables } := runsInMode_of_modes runs.modes outside
  have latched := defaults.faults (latchFault_only .calAbsent 0 s.timeBase _)
  exact latched.completeAutoload
    (by simpa using loading)

theorem loadImage (loading : s.autoload.isSome = true) (image : List Byte) : RunsInMode (loadImage image s) := by
  obtain ⟨judged, loading'⟩ := List.foldlRecOn (motive := fun t => RunsInMode t ∧ t.autoload.isSome = true) (List.range 8)
    (judgeGroup image) (b := { s with holdingBuffer := image }) ⟨⟨runs.modes, runs.speed⟩, loading⟩
    fun t ⟨ht, still⟩ g _ => by
      have outside : t.mode ≠ .direct := by
        rw [of_decide_eq_true (ht.modes.1 ▸ still : decide (t.mode = .start) = true)]; decide
      rw [judgeGroup_only]
      exact ⟨runsInMode_of_modes ht.modes outside, still⟩
  exact judged.completeAutoload loading'

/-! ## Requests -/

theorem servedBy (f : LinkFrame) : ServedBy RunsInMode RunsInMode f s where
  answered _ _ kept := ⟨kept.modes, kept.speed⟩
  emptied kept := ⟨kept.modes, kept.speed⟩
  cleared kept := ⟨kept.modes, kept.speed⟩
  unchanged := runs
  scene _ := runs.afterSceneAccepted (takeScene_known f.payload s.timeBase)
  track _ n bytes := by
    have heard : RunsInMode { s with lastTrackTime := s.timeBase, trackAccepted := true } := ⟨runs.modes, runs.speed⟩
    exact heard.afterTrackAccepted.table (observeAll_only _ _ _)
  drop _ id := runs.table (dropEntries_only id s)
  teardown running := runsInMode_teardown (runs.autoload_none (by rcases running with mode | mode | mode <;> simp [mode]))
  enterActive standby _ := runs.enterActive standby
  enterDirect standby _ known low := runs.enterDirect standby known low
  write standby table n index bytes := by
    rw [writeItems_only]
    exact runsInMode_of_modes runs.modes (by simp [standby])
  direct _ h g values := runs.lamps (setHead_only h _ s).lamps
  pass _ := by
    have held : RunsInMode { s with
        handler := .serving f
        passThrough := some { node := (byteAt f.payload 0).toNat, bytes := f.payload.drop 1, inFlight := false } } :=
      ⟨runs.modes, runs.speed⟩
    exact held.lamps (requestArrived_only _).lamps

end RunsInMode

/-! ## Steps -/

theorem runsInMode_reset (strap : Bool) (pending : List Instr) (ties : Nat) :
    RunsInMode { State.reset with trafficSideHigh := strap, pending, ties } :=
  runsInMode_of_modes modeLaw_reset nofun

theorem runsInMode_keptByParts : KeptByParts RunsInMode where
  link only runs := runs.link only
  count _ runs := ⟨runs.modes, runs.speed⟩
  reset := runsInMode_reset
  loadImage image loading runs := runs.loadImage loading image
  failAutoload loading runs := runs.failAutoload loading
  serve f runs := (runs.servedBy f).serve
  sceneTimerExpired runs := runs.sceneTimerExpired
  trackTimerExpired runs := runs.trackTimerExpired
  frameClock runs := runs.frameClock
  finishHeadStage runs := runs.finishHeadStage
  finishBlock {s} runs := runs.lamps (finishBlock_only s)
  failExchange {s} runs := runs.lamps (failExchange_only s)
  receiveEchoInput {s} port input stopLow runs := runs.lamps (receiveEchoInput_only port input stopLow s)

end Sys2Proof.Machine
end

section
/-! PROOFS. What a predicate that speaks of the time and of the vehicle link must withstand for every step to keep it. -/

namespace Sys2Proof.Machine

/-- The parts from which every step is made, the passing of time and the bytes of the vehicle link among them. -/
structure KeptThroughout (P : State → Prop) : Prop where
  queue : ∀ {s} pending ties, P s → P { s with pending, ties }
  pass : ∀ {s t}, (∀ c m, momentOf c s = some m → t ≤ m) → P s → P (passTo t s)
  silence : ∀ {s}, P s → P { s with rxSilentSince := some s.micros }
  startBit : ∀ {s}, P s → P { s with rxSilentSince := none }
  framer : ∀ {s} framer rxBytes, (framer.inFrame = true → s.rxSilentSince = some s.micros) → P s →
    P { s with framer, rxBytes }
  count : ∀ {s} (id : CounterId), P s → P (countEvent id s)
  offerFrame : ∀ {s} (f : LinkFrame), P s → P (offerFrame f s)
  finishReply : ∀ {s}, s.replyBuffer.isSome = true → P s → P (finishReply s)
  reset : ∀ strap pending ties, P { State.reset with trafficSideHigh := strap, pending, ties }
  loadImage : ∀ {s} (image : List Byte), s.autoload.isSome = true → P s → P (loadImage image s)
  failAutoload : ∀ {s}, s.autoload.isSome = true → P s → P (failAutoload s)
  sceneTimerExpired : ∀ {s}, P s → P (sceneTimerExpired s)
  trackTimerExpired : ∀ {s}, P s → P (trackTimerExpired s)
  frameClock : ∀ {s}, s.framePhase = some s.timeBase → P s → P (frameClock s)
  finishHeadStage : ∀ {s}, P s → P (finishHeadStage s)
  finishBlock : ∀ {s}, P s → P (finishBlock s)
  failExchange : ∀ {s}, P s → P (failExchange s)
  receiveEchoInput : ∀ {s} (port : Head) (input : LineInput) (stopLow : Bool), P s → P (receiveEchoInput port input stopLow s)

namespace KeptThroughout

variable {P : State → Prop} (kept : KeptThroughout P) {s : State}
include kept

theorem finishAutoload (h : P s) (image : List Byte) : P (finishAutoload image s) := by
  unfold Machine.finishAutoload
  split
  · exact h
  · rename_i read loading
    have inFlight : s.autoload.isSome = true := Option.isSome_of_eq_some loading
    split
    · exact kept.failAutoload inFlight h
    · split
      · exact kept.loadImage image inFlight h
      · exact h

theorem missAcknowledge (h : P s) : P (missAcknowledge s) := by
  unfold Machine.missAcknowledge
  split
  · exact h
  · rename_i read loading
    exact kept.failAutoload (Option.isSome_of_eq_some loading) h

/-! ## The vehicle link -/

/-- The framer leaves the frame. -/
theorem outOfFrame (h : P s) (framer : FramerState) (rxBytes : List Byte) (outside : framer.inFrame = false) :
    P { s with framer, rxBytes } :=
  kept.framer framer rxBytes (fun inside => absurd inside (by simp [outside])) h

theorem abandonFrame (h : P s) : P (abandonFrame s) := kept.count _ (kept.outOfFrame h .hunt [] rfl)

theorem completeFrame (h : P s) (b : Byte) : P (completeFrame b s) := by
  have done : P { s with framer := .hunt, rxBytes := [] } := kept.outOfFrame h .hunt [] rfl
  unfold Machine.completeFrame
  dsimp only
  split
  · exact kept.offerFrame _ done
  · exact kept.count _ done

/-- A good byte moves the framer, the silence being measured from it (R159, R160). -/
theorem goodByte (h : P s) (silent : s.rxSilentSince = some s.micros) (b : Byte) : P (goodByte b s) := by
  have moved (framer : FramerState) (rxBytes : List Byte) : P { s with framer, rxBytes } :=
    kept.framer framer rxBytes (fun _ => silent) h
  unfold Machine.goodByte
  split
  · exact moved _ s.rxBytes
  · split
    · exact moved _ _
    · exact moved _ s.rxBytes
  · unfold headerByte
    split
    · exact moved _ _
    · split
      · exact kept.abandonFrame h
      · exact moved _ _
  · exact moved _ _
  · unfold crcByte
    split
    · exact moved _ _
    · exact kept.completeFrame h b

theorem receiveLinkByte (h : P s) (b : Byte) (framingError : Bool) : P (receiveLinkByte b framingError s) := by
  have silent : P { s with rxSilentSince := some s.micros } := kept.silence h
  unfold Machine.receiveLinkByte faultyByte
  dsimp only
  split
  · split
    · exact kept.abandonFrame silent
    · exact kept.outOfFrame silent .hunt s.rxBytes rfl
  · exact kept.goodByte silent rfl b

theorem receiveLinkInput (h : P s) (input : LineInput) : P (receiveLinkInput input s) := by
  cases input
  · exact kept.startBit h
  · exact kept.receiveLinkByte h _ false

/-! ## Moments -/

/-- What happens at a moment that no other comes before. -/
theorem happen (h : P s) {c : Instr} {t : Nat} (moment : momentOf c s = some t)
    (first : ∀ e m, momentOf e s = some m → t ≤ m) : P (happen c (passTo t s)) := by
  have passed : P (passTo t s) := kept.pass first h
  obtain ⟨u, cause, at_u⟩ := momentOf_eq_some.1 moment
  unfold Machine.happen
  split
  · obtain ⟨read, loading, _⟩ := Option.map_eq_some_iff.1 cause
    exact kept.failAutoload (Option.isSome_of_eq_some loading) passed
  · exact kept.sceneTimerExpired passed
  · exact kept.trackTimerExpired passed
  · obtain ⟨phase, running, rfl⟩ := Option.map_eq_some_iff.1 cause
    have here : t = s.microsAt phase := at_u.symm.trans (Nat.max_eq_right (micros_le_microsAt phase s))
    refine kept.frameClock ?_ passed
    rw [here, timeBase_passTo_microsAt]
    exact running
  · exact kept.abandonFrame passed
  · obtain ⟨reply, sending, _⟩ := Option.map_eq_some_iff.1 cause
    exact kept.finishReply (Option.isSome_of_eq_some sending) passed
  · exact kept.finishBlock passed
  · exact kept.failExchange passed
  · exact kept.failExchange passed
  · exact kept.failExchange passed
  · exact passed

theorem runTo (h : P s) (n : Nat) (c : Instr) : P (runTo n c s) :=
  runTo_induction (P := P) (fun s hs => kept.queue s.pending _ hs) (fun _ _ _ hs moment first => kept.happen hs moment first) n c s h

theorem after (h : P s) (c : Instr) : P (after c s) := by
  by_cases own : c ∈ ownCommands
  · rw [exec_next_iff.1 (exec_own own s)]
    exact kept.runTo h _ _
  · cases c
    case reset strap => exact kept.reset strap _ _
    case autoloadReadComplete image => exact kept.finishAutoload h image
    case eepromNoAcknowledge => exact kept.missAcknowledge h
    case frameReceived b => exact kept.receiveLinkByte h b false
    case frameAbandoned b framingError => exact kept.receiveLinkByte h b framingError
    case linkByteReceived input => exact kept.receiveLinkInput h input
    case headStageComplete => exact kept.finishHeadStage h
    case echoReceived port b => exact kept.receiveEchoInput port (.byte b) false h
    case echoByteReceived port input stopLow => exact kept.receiveEchoInput port input stopLow h
    all_goals first | exact kept.offerFrame _ h | exact absurd (by decide) own

/-- A microsecond passes only when no moment is due (log 1). -/
theorem idle (h : P s) {t : State} (e : idle s = .next t) : P t := by
  unfold Machine.idle at e
  split at e
  · rename_i none
    have ahead : ∀ c m, momentOf c s = some m → s.micros < m := dueMoments_eq_nil.1 <| by
      unfold takeFirst at none
      split at none
      · assumption
      · cases none
      · cases none
    cases e
    have passed : P (passTo (s.micros + 1) s) := kept.pass (fun c m moment => ahead c m moment) h
    rwa [passTo, Nat.max_eq_right (Nat.le_succ _)] at passed
  · rename_i c u taken
    obtain ⟨_, rfl⟩ := takeFirst_some taken
    rw [← exec_next_iff.1 e]
    exact kept.after (kept.queue s.pending _ h) c

/-- A predicate that every part keeps is kept by every step. -/
theorem step (h : P s) {t : State} (e : step s = .next t) : P t := by
  unfold Machine.step at e
  split at e
  · rw [← exec_next_iff.1 e]
    exact kept.after (kept.queue _ s.ties h) _
  · exact kept.idle h e

end KeptThroughout

/-- A predicate that speaks neither of the time nor of the link is kept throughout where every other part keeps it. -/
theorem KeptByParts.throughout {P : State → Prop} (kept : KeptByParts P) : KeptThroughout P where
  queue _ _ h := kept.link rfl h
  pass _ h := kept.link rfl h
  silence h := kept.link rfl h
  startBit h := kept.link rfl h
  framer _ _ _ h := kept.link rfl h
  count id h := kept.count id h
  offerFrame f h := kept.offerFrame h f
  finishReply _ h := kept.finishReply h
  reset := kept.reset
  loadImage := kept.loadImage
  failAutoload := kept.failAutoload
  sceneTimerExpired := kept.sceneTimerExpired
  trackTimerExpired := kept.trackTimerExpired
  frameClock _ h := kept.frameClock h
  finishHeadStage := kept.finishHeadStage
  finishBlock := kept.finishBlock
  failExchange := kept.failExchange
  receiveEchoInput := kept.receiveEchoInput

end Sys2Proof.Machine
end

section
/-! PROOFS. No moment of the block's own is passed over (R83, R109, R115, R147, R160, R166, R177). -/

namespace Sys2Proof.Machine

/-! ## Deadlines (R147) -/

/-- A deadline lies at most `bound` milliseconds ahead. -/
abbrev Ahead (bound : Nat) (s : State) (d : Millis) : Prop := (d - s.timeBase).toNat ≤ bound

/-- A count of milliseconds from now. -/
theorem ahead_millis (s : State) {n : Int} {bound : Nat} (low : 0 ≤ n) (high : n ≤ bound) (small : bound < 2 ^ 32) :
    Ahead bound s (s.timeBase + millis n) := by
  obtain ⟨k, rfl⟩ := Int.eq_ofNat_of_zero_le low
  have value : (s.timeBase + millis k - s.timeBase).toNat = k % 2 ^ 32 := by
    rw [BitVec.add_comm, BitVec.add_sub_cancel, millis, BitVec.ofInt_natCast, BitVec.toNat_ofNat]
  rw [Ahead, value, Nat.mod_eq_of_lt (by omega)]
  omega

/-- Time that passes to a deadline at most takes nothing beyond it. -/
theorem Ahead.pass {bound : Nat} {s : State} {d : Millis} (ahead : Ahead bound s d) {t : Nat} (le : t ≤ s.microsAt d) :
    Ahead bound (passTo t s) d := by
  unfold Ahead at *
  unfold State.microsAt at le
  split at le
  · rw [passTo, Nat.max_eq_left le]
    exact ahead
  · unfold passTo State.timeBase at *
    have base := (BitVec.ofNat 32 (s.micros / 1000)).isLt
    have later : max s.micros t / 1000 ≤ s.micros / 1000 + (d - BitVec.ofNat 32 (s.micros / 1000)).toNat := by omega
    have earlier : s.micros / 1000 ≤ max s.micros t / 1000 := Nat.div_le_div_right (Nat.le_max_left _ _)
    rw [BitVec.toNat_sub, BitVec.toNat_ofNat] at *
    have := d.isLt
    dsimp only at *
    omega

/-! ## The law in named parts -/

abbrev ReplyInTime (s : State) : Prop := ∀ r, s.replyBuffer = some r → s.micros ≤ r.startedAt + 10 * (r.payload.length + 7)

abbrev ExchangeInTime (s : State) : Prop := ∀ x, s.exchange = some x → ExchangePunctual s x

/-- `PunctualLaw`, each part with a name. -/
structure InTime (s : State) : Prop where
  sceneTimer : ∀ d, s.sceneTimer = some d → Ahead 1000 s d
  trackTimer : ∀ d, s.trackTimer = some d → Ahead 1000 s d
  frame : ∀ d, s.framePhase = some d → Ahead 20 s d
  autoload : s.autoload.isSome = true → s.micros ≤ 500000
  silence : s.framer.inFrame = true → ∀ t, s.rxSilentSince = some t → s.micros ≤ t + 40
  reply : ReplyInTime s
  exchange : ExchangeInTime s

theorem inTime_iff {s : State} : InTime s ↔ PunctualLaw s :=
  ⟨fun ⟨scene, track, frame, autoload, silence, reply, exchange⟩ => ⟨scene, track, frame, autoload, silence, reply, exchange⟩,
    fun ⟨scene, track, frame, autoload, silence, reply, exchange⟩ => ⟨scene, track, frame, autoload, silence, reply, exchange⟩⟩

/-- The part of the law that the lamp side moves. -/
structure LampsInTime (s : State) : Prop where
  reply : ReplyInTime s
  exchange : ExchangeInTime s

/-! ## Time passes to the first moment at most -/

/-- A moment that does not come before `t`. -/
theorem le_cause {s : State} {t u : Nat} {c : Instr} (first : ∀ c m, momentOf c s = some m → t ≤ m)
    (cause : causeAt c s = some u) : t ≤ max s.micros u :=
  first c _ (momentOf_eq_some.2 ⟨u, cause, rfl⟩)

section
variable {s : State} {t : Nat} (first : ∀ c m, momentOf c s = some m → t ≤ m)
include first

theorem ahead_passTo {bound : Nat} {d : Millis} {c : Instr} (cause : causeAt c s = some (s.microsAt d))
    (ahead : Ahead bound s d) : Ahead bound (passTo t s) d :=
  ahead.pass (Nat.max_eq_right (micros_le_microsAt d s) ▸ le_cause first cause)

theorem exchangePunctual_passTo {x : Exchange} (sent : s.exchange = some x) (punctual : ExchangePunctual s x) :
    ExchangePunctual (passTo t s) x := by
  have cause {c : Instr} {u : Nat} {at_ : Exchange → Option Nat} (e : causeAt c s = s.exchange.bind at_)
      (h : at_ x = some u) (le : s.micros ≤ u) : max s.micros t ≤ u := by
    rw [sent, Option.bind_some, h] at e
    exact Nat.max_le.2 ⟨le, Nat.max_eq_right le ▸ le_cause first e⟩
  unfold ExchangePunctual at *
  cases phase : x.phase with
  | sending =>
    rw [phase] at punctual
    exact cause (c := .blockSent) rfl (by rw [blockSentAt, phase]; rfl) punctual
  | awaiting endedAt =>
    rw [phase] at punctual
    exact cause (c := .echoStartTimeout) rfl (by rw [startTimeoutAt, phase]; rfl) punctual
  | receiving endedAt bytes silent =>
    rw [phase] at punctual
    obtain ⟨silence, limit⟩ := punctual
    refine ⟨fun u here => ?_, cause (c := .echoHardLimit) rfl (by rw [hardLimitAt, phase]; rfl) limit⟩
    exact cause (c := .echoSilenceTimeout) rfl (by rw [echoSilenceAt, phase, here]; rfl) (silence u here)
  | failed endedAt silent =>
    rw [phase] at punctual
    obtain ⟨silence, limit⟩ := punctual
    refine ⟨fun u here => ?_, cause (c := .echoHardLimit) rfl (by rw [hardLimitAt, phase]; rfl) limit⟩
    exact cause (c := .echoSilenceTimeout) rfl (by rw [echoSilenceAt, phase, here]; rfl) (silence u here)

theorem InTime.pass (inTime : InTime s) : InTime (passTo t s) where
  sceneTimer d running :=
    ahead_passTo first (c := .sceneTimerExpiry) (congrArg (Option.map s.microsAt) running) (inTime.sceneTimer d running)
  trackTimer d running :=
    ahead_passTo first (c := .trackTimerExpiry) (congrArg (Option.map s.microsAt) running) (inTime.trackTimer d running)
  frame d running :=
    ahead_passTo first (c := .frameStart) (congrArg (Option.map s.microsAt) running) (inTime.frame d running)
  autoload loading := by
    obtain ⟨read, inFlight⟩ := Option.isSome_iff_exists.1 loading
    have limit : s.micros ≤ autoloadLimit := inTime.autoload loading
    have le : t ≤ max s.micros autoloadLimit :=
      le_cause first (c := .autoloadTimeout) (congrArg (Option.map fun _ => autoloadLimit) inFlight)
    rw [Nat.max_eq_right limit] at le
    exact Nat.max_le.2 ⟨limit, le⟩
  silence inside u silent := by
    have limit := inTime.silence inside u silent
    have cause : causeAt .frameSilenceTimeout s = some (u + 40) :=
      (if_pos inside).trans (congrArg (Option.map (· + 40)) silent)
    exact Nat.max_le.2 ⟨limit, Nat.max_eq_right limit ▸ le_cause first cause⟩
  reply r sending := by
    have limit := inTime.reply r sending
    have cause : causeAt .replyTransmitted s = some r.endsAt := congrArg (Option.map Reply.endsAt) sending
    have le : t ≤ max s.micros (r.startedAt + 10 * (r.payload.length + 7)) := le_cause first cause
    rw [Nat.max_eq_right limit] at le
    exact Nat.max_le.2 ⟨limit, le⟩
  exchange x sent := exchangePunctual_passTo first sent (inTime.exchange x sent)

end

/-! ## The lamp side -/

namespace LampsInTime

variable {s t : State} (inTime : LampsInTime s)
include inTime

/-- Of the lamp side's state, the exchange alone has its times. -/
theorem same (exchange : t.exchange = s.exchange) (reply : t.replyBuffer = s.replyBuffer) (micros : t.micros = s.micros)
    (tables : t.tables = s.tables) : LampsInTime t := by
  refine ⟨fun r hr => ?_, fun x hx => ?_⟩
  · rw [micros]; exact inTime.reply r (reply ▸ hr)
  · have law := inTime.exchange x (exchange ▸ hx)
    unfold ExchangePunctual State.itemNat at *
    rw [micros, item_congr tables]
    exact law

theorem setHead (h : Head) (hs : HeadState) : LampsInTime (s.setHead h hs) :=
  inTime.same (by simp) (by simp) (by simp) (by simp)

theorem idle : LampsInTime { s with exchange := none } := ⟨inTime.reply, nofun⟩

/-- A block that starts now has all of its time (R109). -/
theorem startExchange (port : Head) (node : Nat) (content : BlockContent) : LampsInTime (startExchange port node content s) :=
  ⟨inTime.reply, fun x started => by cases started; exact Nat.le_add_right _ _⟩

theorem answer (f : LinkFrame) (status : Status) (part : List Byte) : LampsInTime (answer f status part s) :=
  ⟨fun r built => by cases built; exact Nat.le_add_right _ _, inTime.exchange⟩

theorem answerHeld (status : Status) (part : List Byte) : LampsInTime (answerHeld status part s) := by
  unfold Machine.answerHeld
  split
  · exact inTime.answer _ _ _
  · exact inTime
  · exact inTime

theorem grantHead (h : Head) : LampsInTime (grantHead h s) := by
  unfold Machine.grantHead
  split
  · exact inTime
  · rename_i f _
    have live := inTime.setHead h { s.head h with staged := none, live := some f.levels }
    exact startExchange (s := { s.setHead h { s.head h with staged := none, live := some f.levels } with
        grant := .head h, grantStart := some s.micros, progress := 0 }) ⟨live.reply, live.exchange⟩ _ _ _

theorem arbitrate : LampsInTime (arbitrate s) :=
  arbitrate_cases (fun _ _ _ => inTime) (fun p _ _ => startExchange (s := { s with
      grant := .pass, grantStart := some s.micros, passThrough := some { p with inFlight := true } })
      ⟨inTime.reply, inTime.exchange⟩ _ _ _)
    (fun h _ _ _ => inTime.grantHead h) (fun _ _ _ => inTime)

theorem requestArrived : LampsInTime (requestArrived s) := by
  unfold Machine.requestArrived
  split
  · exact inTime.arbitrate
  · exact inTime

theorem stageFrame (h : Head) (levels : List Nat) : LampsInTime (stageFrame h levels s) := by
  have counted : LampsInTime (if (s.head h).staged.isSome then countEvent (.superseded h) s else s) := by
    split
    · exact ⟨inTime.reply, inTime.exchange⟩
    · exact inTime
  exact (counted.setHead _ _).requestArrived

theorem stageDirectFrames : LampsInTime (stageDirectFrames s) := by
  unfold Machine.stageDirectFrames
  exact List.foldlRecOn (motive := LampsInTime) s.presentHeads _ inTime fun _ held h _ => held.stageFrame h _

theorem endTransfer (h : Head) : LampsInTime (endTransfer h s) := by
  have idle := inTime.setHead h { s.head h with live := none }
  exact arbitrate (s := { s.setHead h { s.head h with live := none } with grant := .none }) ⟨idle.reply, idle.exchange⟩

theorem truncateTransfer (h : Head) : LampsInTime (truncateTransfer h s) := by
  have moved := inTime.setHead h { s.head h with cursor := ((s.head h).cursor + s.progress) % s.nodeCount h }
  exact endTransfer (s := countEvent (.truncated h) _) ⟨moved.reply, moved.exchange⟩ h

theorem continueTransfer (h : Head) : LampsInTime (continueTransfer h s) := by
  have sent : LampsInTime { s with progress := s.progress + 1 } := ⟨inTime.reply, inTime.exchange⟩
  unfold Machine.continueTransfer
  dsimp only
  split
  · exact sent.endTransfer h
  · split
    · exact sent.truncateTransfer h
    · exact sent.startExchange _ _ _

theorem completePass (o : ExchangeOutcome) : LampsInTime (completePass o s) := by
  have ended : LampsInTime { s with grant := .none, passThrough := none } := ⟨inTime.reply, inTime.exchange⟩
  exact (ended.answerHeld _ _).arbitrate

theorem completeExchange (x : Exchange) (o : ExchangeOutcome) : LampsInTime (completeExchange x o s) := by
  have judged : LampsInTime (countFailure x.port o (nodeOutcome x.node o { s with exchange := none })) := by
    have outcome : LampsInTime (nodeOutcome x.node o { s with exchange := none }) := by
      have only := nodeOutcome_only x.node o { s with exchange := none }
      exact inTime.idle.same (by rw [only]) (by rw [only]) (by rw [only]) (by rw [only])
    unfold countFailure
    split
    · exact ⟨outcome.reply, outcome.exchange⟩
    · exact outcome
  unfold Machine.completeExchange
  dsimp only
  split
  · exact judged.continueTransfer _
  · exact judged.completePass o
  · exact judged

theorem failExchange : LampsInTime (failExchange s) := by
  unfold Machine.failExchange
  split
  · exact inTime
  · exact inTime.completeExchange _ _

/-- A block that has just been sent has the whole wait for its echo before it (R115). -/
theorem finishBlock : LampsInTime (finishBlock s) := by
  unfold Machine.finishBlock
  split
  · exact inTime
  · exact ⟨inTime.reply, fun y moved => by cases moved; exact Nat.le_add_right _ _⟩

/-- The hard limit holds from the end of the block on (R115). -/
theorem hardLimit {x : Exchange} (sent : s.exchange = some x) {endedAt : Nat} (ended : BlockEnded x endedAt) :
    s.micros ≤ endedAt + s.itemNat 1 3 + 750 := by
  have punctual := inTime.exchange x sent
  unfold ExchangePunctual at punctual
  rcases ended with phase | ⟨bytes, silent, phase⟩ | ⟨silent, phase⟩
  · rw [phase] at punctual
    exact Nat.le_add_right_of_le punctual
  · rw [phase] at punctual
    exact punctual.2
  · rw [phase] at punctual
    exact punctual.2

/-- A byte measures the silence anew, and a start bit ends it (R109). -/
theorem receiveEchoInput (port : Head) (input : LineInput) (stopLow : Bool) :
    LampsInTime (receiveEchoInput port input stopLow s) := by
  have silence {silent : Option Nat} (now : silent = none ∨ silent = some s.micros) :
      ∀ u, silent = some u → s.micros ≤ u + 20 := by
    rintro u rfl
    rcases now with h | h <;> cases h
    exact Nat.le_add_right _ _
  refine receiveEchoInput_cases port input stopLow inTime (fun x endedAt bytes silent sent ended now => ?_)
    (fun x endedAt silent sent ended now => ?_) (fun x o _ => inTime.completeExchange x o)
  · exact ⟨inTime.reply, fun y moved => by cases moved; exact ⟨silence now, inTime.hardLimit sent ended⟩⟩
  · exact ⟨inTime.reply, fun y moved => by cases moved; exact ⟨silence now, inTime.hardLimit sent ended⟩⟩

end LampsInTime

/-! ## The whole law -/

namespace InTime

variable {s t : State} (inTime : InTime s)
include inTime

theorem lampSide : LampsInTime s := ⟨inTime.reply, inTime.exchange⟩

theorem lamps (only : OnlyLamps s t) (held : LampsInTime t) : InTime t where
  sceneTimer := by rw [only]; exact inTime.sceneTimer
  trackTimer := by rw [only]; exact inTime.trackTimer
  frame := by rw [only]; exact inTime.frame
  autoload := by rw [only]; exact inTime.autoload
  silence := by rw [only]; exact inTime.silence
  reply := held.reply
  exchange := held.exchange

/-- Nothing else has a time in it. -/
theorem same (only : t = { t with
    micros := s.micros, sceneTimer := s.sceneTimer, trackTimer := s.trackTimer, framePhase := s.framePhase,
    autoload := s.autoload, framer := s.framer, rxSilentSince := s.rxSilentSince, replyBuffer := s.replyBuffer,
    exchange := s.exchange, tables := s.tables }) : InTime t := by
  rw [only]
  exact ⟨inTime.sceneTimer, inTime.trackTimer, inTime.frame, inTime.autoload, inTime.silence, inTime.reply, inTime.exchange⟩

theorem table (only : OnlyTable s t) : InTime t := by
  rw [only]; exact inTime.same rfl

theorem faults (only : OnlyFaults s t) : InTime t := by
  rw [only]; exact inTime.same rfl

/-! ## Timers and modes -/

theorem startSceneTimer (calibration : CalibrationLaw s) : InTime (startSceneTimer s) := by
  obtain ⟨low, high⟩ := item_in_range (item := ⟨50, 1000, 250⟩) calibration (t := 1) (i := 1) (by decide) rfl
  refine ⟨fun d started => ?_, inTime.trackTimer, inTime.frame, inTime.autoload, inTime.silence, inTime.reply, inTime.exchange⟩
  cases started
  exact ahead_millis s (Int.le_trans (by decide) low) high (by decide)

theorem startTrackTimer (calibration : CalibrationLaw s) : InTime (startTrackTimer s) := by
  obtain ⟨low, high⟩ := item_in_range (item := ⟨50, 1000, 300⟩) calibration (t := 1) (i := 2) (by decide) rfl
  refine ⟨inTime.sceneTimer, fun d started => ?_, inTime.frame, inTime.autoload, inTime.silence, inTime.reply, inTime.exchange⟩
  cases started
  exact ahead_millis s (Int.le_trans (by decide) low) high (by decide)

/-- From now the next frame start lies one frame period ahead (R83). -/
theorem nextFrame (calibration : CalibrationLaw s) : InTime { s with framePhase := some (s.timeBase + millis s.framePeriod) } := by
  obtain ⟨low, high⟩ := item_in_range (item := ⟨4, 20, 8⟩) calibration (t := 1) (i := 0) (by decide) rfl
  refine ⟨inTime.sceneTimer, inTime.trackTimer, fun d started => ?_, inTime.autoload, inTime.silence, inTime.reply,
    inTime.exchange⟩
  cases started
  exact ahead_millis s (Int.le_trans (by decide) low) high (by decide)

/-- Stopped timers and a changed mode pass over no moment. -/
theorem enterSafe : InTime (enterSafe s) :=
  ⟨nofun, nofun, inTime.frame, inTime.autoload, inTime.silence, inTime.reply, inTime.exchange⟩

theorem teardown : InTime (teardown s) := ⟨nofun, nofun, nofun, inTime.autoload, inTime.silence, inTime.reply, nofun⟩

theorem abortDirect : InTime (abortDirect s) := by
  have latched := inTime.teardown.faults (latchFault_only .directAborted 0 (Machine.teardown s).timeBase _)
  refine latched.lamps ?_ (latched.lampSide.answerHeld _ _)
  unfold Machine.abortDirect
  rw [answerHeld_only]
  rfl

theorem recover (calibration : CalibrationLaw s) : InTime (recover s) := by
  have active : InTime { s with mode := .active, trackPending := false, sceneSeen := false, trackSeen := false } :=
    inTime.same rfl
  exact (active.startSceneTimer calibration).startTrackTimer calibration

theorem enterActive (calibration : CalibrationLaw s) : InTime (enterActive s) := by
  have active : InTime { s with mode := .active, trackPending := true, sceneSeen := false, trackSeen := false } :=
    inTime.same rfl
  have timed := (active.startSceneTimer calibration).startTrackTimer calibration
  have released : InTime (releaseHolds (Machine.startTrackTimer (Machine.startSceneTimer
      { s with mode := .active, trackPending := true, sceneSeen := false, trackSeen := false }))) :=
    timed.same rfl
  exact released.nextFrame calibration

theorem enterDirect (calibration : CalibrationLaw s) : InTime (enterDirect s) := by
  have direct : InTime { s with
      mode := .direct, trackPending := false, sceneSeen := false, trackSeen := false, trackTimer := none } :=
    ⟨inTime.sceneTimer, nofun, inTime.frame, inTime.autoload, inTime.silence, inTime.reply, inTime.exchange⟩
  have timed := direct.startSceneTimer calibration
  have released : InTime (releaseHolds (zeroDirect (Machine.startSceneTimer { s with
      mode := .direct, trackPending := false, sceneSeen := false, trackSeen := false, trackTimer := none }))) :=
    timed.same rfl
  exact released.nextFrame calibration

theorem afterSceneAccepted (calibration : CalibrationLaw s) : InTime (afterSceneAccepted s) :=
  afterSceneAccepted_cases (fun _ => inTime) (fun _ => inTime.startSceneTimer calibration)
    (fun _ _ => inTime.same rfl)
    (fun _ _ => recover (s := { s with sceneSeen := true }) (inTime.same rfl) calibration)
    (fun _ _ => inTime.startSceneTimer calibration) (fun _ => inTime.abortDirect)

theorem afterTrackAccepted (calibration : CalibrationLaw s) : InTime (afterTrackAccepted s) :=
  afterTrackAccepted_cases (fun _ _ => inTime)
    (fun _ => startTrackTimer (s := { s with trackPending := false }) (inTime.same rfl) calibration)
    (fun _ _ => inTime.same rfl)
    (fun _ _ => recover (s := { s with trackSeen := true }) (inTime.same rfl) calibration)

theorem sceneTimerExpired : InTime (sceneTimerExpired s) :=
  sceneTimerExpired_cases (fun _ => (inTime.faults (latchFault_only .sceneLost 0 s.timeBase s)).enterSafe)
    (fun _ => inTime.abortDirect)
    (fun _ _ => ⟨nofun, inTime.trackTimer, inTime.frame, inTime.autoload, inTime.silence, inTime.reply, inTime.exchange⟩)

theorem trackTimerExpired : InTime (trackTimerExpired s) :=
  trackTimerExpired_cases (fun _ => (inTime.faults (latchFault_only .trackLost 0 s.timeBase s)).enterSafe)
    (fun _ => ⟨inTime.sceneTimer, nofun, inTime.frame, inTime.autoload, inTime.silence, inTime.reply, inTime.exchange⟩)

/-! ## The frame path -/

/-- The frame clock strikes at its phase, and the next frame start lies one period ahead (R83). -/
theorem frameClock (calibration : CalibrationLaw s) (struck : s.framePhase = some s.timeBase) : InTime (frameClock s) := by
  have next := inTime.nextFrame calibration
  unfold Machine.frameClock
  rw [struck]
  exact takeFrameStart_cases
    (fun _ => next.same rfl)
    (fun _ _ => next.same rfl)
    (fun _ => next.lamps (stageDirectFrames_only _).lamps next.lampSide.stageDirectFrames) (fun _ => next)

theorem finishHeadStage : InTime (finishHeadStage s) := by
  have composed : InTime { s with composition := (Machine.finishHeadStage s).composition } :=
    inTime.same rfl
  refine composed.lamps (finishHeadStage_only s).lamps ?_
  unfold Machine.finishHeadStage
  split
  · exact inTime.lampSide
  · rename_i c _
    split
    · exact ⟨inTime.reply, inTime.exchange⟩
    · rename_i h rest _
      have levels := inTime.lampSide.setHead h
        { s.head h with applied := composedLevels s c h (compositionShadows s c h) }
      have staged := LampsInTime.stageFrame (s := { s.setHead h
          { s.head h with applied := composedLevels s c h (compositionShadows s c h) } with
            composition := some (c.composed h (compositionShadows s c h) rest) })
        ⟨levels.reply, levels.exchange⟩ h (composedLevels s c h (compositionShadows s c h))
      unfold endHeadStage
      dsimp only
      split
      · exact ⟨staged.reply, staged.exchange⟩
      · exact staged

/-! ## The Calibration Store -/

/-- The tables change only while no exchange is in flight, so that no echo_timeout changes under one (R115, R175). -/
theorem retabled (rested : s.exchange = none) (tables : List (List Int)) : InTime { s with tables } :=
  ⟨inTime.sceneTimer, inTime.trackTimer, inTime.frame, inTime.autoload, inTime.silence, inTime.reply, fun x sent => by
    cases rested.symm.trans sent⟩

theorem failAutoload (rested : s.exchange = none) : InTime (failAutoload s) := by
  have defaults : InTime { s with holdingBuffer := [], tables := defaultTables } :=
    ⟨inTime.sceneTimer, inTime.trackTimer, inTime.frame, inTime.autoload, inTime.silence, inTime.reply,
      (inTime.retabled rested defaultTables).exchange⟩
  have latched := defaults.faults (latchFault_only .calAbsent 0 s.timeBase _)
  exact ⟨latched.sceneTimer, latched.trackTimer, latched.frame, nofun, latched.silence, latched.reply, latched.exchange⟩

theorem loadImage (rested : s.exchange = none) (image : List Byte) : InTime (loadImage image s) := by
  have held : InTime { s with holdingBuffer := image } :=
    inTime.same rfl
  obtain ⟨judged, _⟩ := List.foldlRecOn (motive := fun t => InTime t ∧ t.exchange = none) (List.range 8)
    (judgeGroup image) (b := { s with holdingBuffer := image }) ⟨held, rested⟩
    fun t ⟨ht, idle⟩ g _ => by
      have loaded := ht.retabled idle (judgeGroup image t g).tables
      rw [judgeGroup_only]
      exact ⟨loaded.same rfl, idle⟩
  exact ⟨judged.sceneTimer, judged.trackTimer, judged.frame, nofun, judged.silence, judged.reply, judged.exchange⟩

/-! ## Requests -/

theorem servedBy (calibration : CalibrationLaw s) (rest : RestLaw s) (f : LinkFrame) : ServedBy InTime InTime f s where
  answered {t} status part held := held.lamps (t := answer f status part t) rfl (held.lampSide.answer f status part)
  emptied held := held.same rfl
  cleared held := held.same rfl
  unchanged := inTime
  scene _ := by
    have recorded : InTime { s with scene := (takeScene f.payload s.timeBase s.scene).1 } :=
      inTime.same rfl
    exact recorded.afterSceneAccepted calibration
  track _ n bytes := by
    have heard : InTime { s with lastTrackTime := s.timeBase, trackAccepted := true } :=
      inTime.same rfl
    exact (heard.afterTrackAccepted calibration).table (observeAll_only _ _ _)
  drop _ id := inTime.table (dropEntries_only id s)
  teardown _ := inTime.teardown
  enterActive _ _ := inTime.enterActive calibration
  enterDirect _ _ _ _ := inTime.enterDirect calibration
  write standby table n index bytes := by
    rw [writeItems_only]
    exact inTime.retabled (rest.exchange_none (.inr standby)) _
  direct _ h g values := inTime.lamps (setHead_only h _ s).lamps (inTime.lampSide.setHead h _)
  pass _ := by
    have held : InTime { s with
        handler := .serving f
        passThrough := some { node := (byteAt f.payload 0).toNat, bytes := f.payload.drop 1, inFlight := false } } :=
      inTime.same rfl
    exact held.lamps (requestArrived_only _).lamps held.lampSide.requestArrived

theorem takeNext (calibration : CalibrationLaw s) (rest : RestLaw s) : InTime (takeNext s) := by
  unfold Machine.takeNext
  split
  · exact inTime
  · exact inTime
  · split
    · exact inTime
    · rename_i f waiting _
      have taken : InTime { s with inbound := waiting } :=
        inTime.same rfl
      exact (taken.servedBy calibration rest f).serve

theorem offerFrame (calibration : CalibrationLaw s) (rest : RestLaw s) (f : LinkFrame) : InTime (offerFrame f s) := by
  unfold Machine.offerFrame
  split
  · have queued : InTime { s with inbound := s.inbound ++ [f] } :=
      inTime.same rfl
    exact queued.takeNext calibration rest
  · exact inTime.same rfl

theorem finishReply (calibration : CalibrationLaw s) (rest : RestLaw s) : InTime (finishReply s) := by
  have sent : InTime { s with replyBuffer := none, handler := .idle } :=
    ⟨inTime.sceneTimer, inTime.trackTimer, inTime.frame, inTime.autoload, inTime.silence, nofun, inTime.exchange⟩
  exact sent.takeNext calibration rest

end InTime

/-! ## Steps -/

/-- The law with those under which every step keeps it. -/
structure Timely (s : State) : Prop where
  calibration : CalibrationLaw s
  rest : RestLaw s
  inTime : InTime s

theorem timely_keptThroughout : KeptThroughout Timely := by
  have calibration := calibrationLaw_keptByParts.throughout
  have rest := restLaw_keptByParts.throughout
  exact {
    queue := fun pending ties ⟨c, r, h⟩ => ⟨calibration.queue pending ties c, rest.queue pending ties r,
      h.same rfl⟩
    pass := fun first ⟨c, r, h⟩ => ⟨calibration.pass first c, rest.pass first r, h.pass first⟩
    silence := fun ⟨c, r, h⟩ => ⟨calibration.silence c, rest.silence r,
      ⟨h.sceneTimer, h.trackTimer, h.frame, h.autoload, fun _ t now => by cases now; exact Nat.le_add_right _ _, h.reply,
        h.exchange⟩⟩
    startBit := fun ⟨c, r, h⟩ => ⟨calibration.startBit c, rest.startBit r,
      ⟨h.sceneTimer, h.trackTimer, h.frame, h.autoload, fun _ => nofun, h.reply, h.exchange⟩⟩
    framer := fun {s} framer rxBytes now ⟨c, r, h⟩ => ⟨calibration.framer framer rxBytes now c, rest.framer framer rxBytes now r,
      ⟨h.sceneTimer, h.trackTimer, h.frame, h.autoload, fun inside t silent => by
        cases (now inside).symm.trans silent
        exact Nat.le_add_right _ _, h.reply, h.exchange⟩⟩
    count := fun id ⟨c, r, h⟩ => ⟨calibration.count id c, rest.count id r,
      h.same rfl⟩
    offerFrame := fun f ⟨c, r, h⟩ => ⟨calibration.offerFrame f c, rest.offerFrame f r, h.offerFrame c r f⟩
    finishReply := fun sending ⟨c, r, h⟩ => ⟨calibration.finishReply sending c, rest.finishReply sending r, h.finishReply c r⟩
    reset := fun strap pending ties => ⟨calibration.reset strap pending ties, rest.reset strap pending ties,
      ⟨nofun, nofun, nofun, fun _ => Nat.zero_le _, nofun, nofun, nofun⟩⟩
    loadImage := fun image loading ⟨c, r, h⟩ => ⟨calibration.loadImage image loading c, rest.loadImage image loading r,
      h.loadImage (r.exchange_none (atRest_of_loading r.1 loading)) image⟩
    failAutoload := fun loading ⟨c, r, h⟩ => ⟨calibration.failAutoload loading c, rest.failAutoload loading r,
      h.failAutoload (r.exchange_none (atRest_of_loading r.1 loading))⟩
    sceneTimerExpired := fun ⟨c, r, h⟩ =>
      ⟨calibration.sceneTimerExpired c, rest.sceneTimerExpired r, h.sceneTimerExpired⟩
    trackTimerExpired := fun ⟨c, r, h⟩ =>
      ⟨calibration.trackTimerExpired c, rest.trackTimerExpired r, h.trackTimerExpired⟩
    frameClock := fun struck ⟨c, r, h⟩ => ⟨calibration.frameClock struck c, rest.frameClock struck r, h.frameClock c struck⟩
    finishHeadStage := fun ⟨c, r, h⟩ => ⟨calibration.finishHeadStage c, rest.finishHeadStage r, h.finishHeadStage⟩
    finishBlock := fun {s} ⟨c, r, h⟩ =>
      ⟨calibration.finishBlock c, rest.finishBlock r, h.lamps (finishBlock_only s) h.lampSide.finishBlock⟩
    failExchange := fun {s} ⟨c, r, h⟩ =>
      ⟨calibration.failExchange c, rest.failExchange r, h.lamps (failExchange_only s) h.lampSide.failExchange⟩
    receiveEchoInput := fun {s} port input stopLow ⟨c, r, h⟩ =>
      ⟨calibration.receiveEchoInput port input stopLow c, rest.receiveEchoInput port input stopLow r,
        h.lamps (receiveEchoInput_only port input stopLow s) (h.lampSide.receiveEchoInput port input stopLow)⟩ }

/-- Settles O57: the flags and timers by `RunsInMode`, the moments by `Timely`. -/
theorem stepKeepsTheModeLaws : Obligations.StepKeepsTheModeLaws := by
  unfold Obligations.StepKeepsTheModeLaws
  refine ⟨fun s t modes speed e => ?_, fun s t calibration rest punctual e => ?_⟩
  · have runs := runsInMode_keptByParts.step ⟨modes, speed⟩ e
    exact ⟨runs.modes, runs.speed⟩
  · have timely := timely_keptThroughout.step ⟨calibration, rest, inTime_iff.2 punctual⟩ e
    exact inTime_iff.1 timely.inTime

end Sys2Proof.Machine
end

section
/-! PROOFS. The Request Handler, the queue, the reply buffer, the grant, the exchange, the slots and the pass-through in step
with one another (R103, R113, R114, R118, R121, R125, R136, R162, R163). -/

namespace Sys2Proof.Machine

/-! ## The laws together -/

/-- All that the laws of handler, sequencer and isolation speak of. -/
def State.coupling (s : State) :=
  (s.inbound, s.handler, s.replyBuffer, s.passThrough, s.grant, s.exchange, (s.left.staged, s.left.live),
    (s.right.staged, s.right.live), s.nodes)

/-- The three laws together. -/
structure Coupled (s : State) : Prop where
  handler : HandlerLaw s
  sequencer : SequencerLaw s
  isolation : IsolationLaw s

/-- Every pass-through waits. -/
abbrev PassWaits (s : State) : Prop := ∀ p, s.passThrough = some p → p.inFlight = false

/-- No grant is held: nothing is in flight, and whoever has come waits for the arbitration (R118). -/
structure Freed (s : State) : Prop where
  handler : HandlerLaw s
  grant : s.grant = .none
  exchange : s.exchange = none
  left : s.left.live = none
  right : s.right.live = none
  pass : PassWaits s

/-- The transfer of a head between two of its exchanges (R120, R122). -/
structure Transferring (h : Head) (s : State) : Prop where
  handler : HandlerLaw s
  grant : s.grant = .head h
  exchange : s.exchange = none
  live : (s.head h).live.isSome = true
  other : (s.head h.other).live = none
  pass : PassWaits s

/-- A state in which no pass-through is outstanding, whatever the Request Handler does (R163). -/
structure Quiet (s : State) : Prop where
  inbound : s.inbound.length ≤ 4
  pass : s.passThrough = none
  sequencer : SequencerLaw s
  isolation : IsolationLaw s

section
variable {s t : State}

theorem HandlerLaw.same (law : HandlerLaw s) (inbound : t.inbound = s.inbound) (reply : t.replyBuffer = s.replyBuffer)
    (handler : t.handler = s.handler) (pass : t.passThrough.isSome = s.passThrough.isSome) : HandlerLaw t := by
  have gone : t.passThrough = none ↔ s.passThrough = none := by
    rw [← Option.isNone_iff_eq_none, ← Option.isNone_iff_eq_none, ← Option.not_isSome, ← Option.not_isSome, pass]
  unfold HandlerLaw at *
  rw [inbound, reply, handler, gone, pass]
  exact law

theorem HandlerLaw.setHead (law : HandlerLaw s) (h : Head) (hs : HeadState) : HandlerLaw (s.setHead h hs) :=
  law.same (by simp) (by simp) (by simp) (by simp)

theorem passWaits_setHead (waits : PassWaits s) (h : Head) (hs : HeadState) : PassWaits (s.setHead h hs) := by
  cases h <;> exact waits

theorem SequencerLaw.same (law : SequencerLaw s) (same : t.coupling = s.coupling) : SequencerLaw t := by
  simp only [State.coupling, Prod.mk.injEq] at same
  obtain ⟨_, _, _, pass, grant, exchange, ⟨leftStaged, leftLive⟩, ⟨rightStaged, rightLive⟩, _⟩ := same
  have live (h : Head) : (t.head h).live = (s.head h).live := by
    cases h
    · exact leftLive
    · exact rightLive
  unfold SequencerLaw at *
  rw [pass, grant, exchange, leftStaged, leftLive, rightStaged, rightLive]
  cases held : s.grant with
  | none => rw [held] at law; exact law
  | head h => rw [held] at law; simp only [live]; exact law
  | pass => rw [held] at law; exact law

theorem IsolationLaw.same (law : IsolationLaw s) (exchange : t.exchange = s.exchange) (nodes : t.nodes = s.nodes) :
    IsolationLaw t := by
  unfold IsolationLaw State.node at *
  rw [exchange, nodes]
  exact law

theorem Coupled.same (coupled : Coupled s) (same : t.coupling = s.coupling) : Coupled t := by
  have parts := same
  simp only [State.coupling, Prod.mk.injEq] at parts
  obtain ⟨inbound, handler, reply, pass, _, exchange, _, _, nodes⟩ := parts
  exact ⟨coupled.handler.same inbound reply handler (congrArg _ pass), coupled.sequencer.same same,
    coupled.isolation.same exchange nodes⟩

theorem Quiet.same (quiet : Quiet s) (same : t.coupling = s.coupling) : Quiet t := by
  have parts := same
  simp only [State.coupling, Prod.mk.injEq] at parts
  obtain ⟨inbound, _, _, pass, _, exchange, _, _, nodes⟩ := parts
  exact ⟨inbound ▸ quiet.inbound, pass.trans quiet.pass, quiet.sequencer.same same, quiet.isolation.same exchange nodes⟩

end

/-! ## Arbitration (R118, R119) -/

section
variable {s t : State} {h : Head}

/-- The next group of a transfer goes out; to an ISOLATED node it carries zeros (R121). -/
theorem isolationLaw_sendGroup (h : Head) (s : State) : IsolationLaw (sendGroup h s) := by
  intro x levels sent content isolated
  cases sent
  cases content
  exact if_pos isolated

theorem Transferring.sendGroup (transfer : Transferring h s) : Coupled (sendGroup h s) := by
  refine ⟨transfer.handler.same rfl rfl rfl rfl, ?_, isolationLaw_sendGroup h s⟩
  have grant : (Machine.sendGroup h s).grant = .head h := transfer.grant
  unfold SequencerLaw
  rw [grant]
  exact ⟨rfl, transfer.live, transfer.other, transfer.pass⟩

/-- A staged frame goes live, and its first block goes out (R103, R119). -/
theorem Freed.grantHead (freed : Freed s) {f : StagedFrame} (staged : (s.head h).staged = some f) :
    Coupled (grantHead h s) := by
  unfold Machine.grantHead
  rw [staged]
  have live := freed.handler.setHead h { s.head h with staged := none, live := some f.levels }
  refine Transferring.sendGroup ⟨live.same rfl rfl rfl rfl, rfl, ?_, ?_, ?_, passWaits_setHead freed.pass h _⟩
  · simpa using freed.exchange
  · cases h <;> rfl
  · cases h
    · exact freed.right
    · exact freed.left

theorem Freed.grantPass (freed : Freed s) {p : PassThrough} (held : s.passThrough = some p) : Coupled (grantPass p s) :=
  ⟨freed.handler.same rfl rfl rfl (congrArg Option.isSome held).symm, ⟨rfl, freed.left, freed.right, _, rfl, rfl⟩,
    fun _ _ sent content => by cases sent; cases content⟩

theorem Freed.coupled (freed : Freed s) (pass : s.passThrough = none) (left : s.left.staged = none)
    (right : s.right.staged = none) : Coupled s := by
  refine ⟨freed.handler, ?_, fun x _ sent => ?_⟩
  · unfold SequencerLaw
    rw [freed.grant]
    exact ⟨freed.exchange, freed.left, freed.right, left, right, pass⟩
  · cases freed.exchange.symm.trans sent

theorem Freed.arbitrate (freed : Freed s) : Coupled (arbitrate s) :=
  arbitrate_cases (fun p held granted => absurd (freed.pass p held) (by simp [granted]))
    (fun _ held _ => freed.grantPass held) (fun _ _ _ staged => freed.grantHead staged) freed.coupled

theorem coupled_requestArrived (free : s.grant = .none → Freed s) (busy : s.grant ≠ .none → Coupled s) :
    Coupled (requestArrived s) := by
  unfold requestArrived
  split
  · rename_i none
    exact (free none).arbitrate
  · rename_i some
    exact busy some

/-- With no grant held nothing is in flight, and nobody waits (R118). -/
theorem Coupled.freed (coupled : Coupled s) (free : s.grant = .none) : Freed s := by
  have law := coupled.sequencer
  unfold SequencerLaw at law
  rw [free] at law
  obtain ⟨exchange, left, right, _, _, pass⟩ := law
  exact ⟨coupled.handler, free, exchange, left, right, fun p held => by cases pass.symm.trans held⟩

/-- What waits in a staged slot matters to the law only while no grant is held. -/
theorem SequencerLaw.staged (law : SequencerLaw s) (busy : s.grant ≠ .none) (h : Head) (staged : Option StagedFrame) :
    SequencerLaw (s.setHead h { s.head h with staged }) := by
  have grant : (s.setHead h { s.head h with staged }).grant = s.grant := by simp
  unfold SequencerLaw at *
  rw [grant]
  cases held : s.grant with
  | none => exact absurd held busy
  | head k =>
    rw [held] at law
    cases h <;> cases k <;> exact law
  | pass =>
    rw [held] at law
    cases h <;> exact law

/-- A frame that is handed in waits, or its head is granted at once (R102, R118). -/
theorem Coupled.stageFrame (coupled : Coupled s) (h : Head) (levels : List Nat) : Coupled (stageFrame h levels s) := by
  have counted : Coupled (if (s.head h).staged.isSome then countEvent (.superseded h) s else s) := by
    split
    · exact coupled.same rfl
    · exact coupled
  refine coupled_requestArrived (fun free => ?_) (fun busy => ?_)
  · have freed := counted.freed (by simpa using free)
    refine ⟨freed.handler.setHead h _, free, ?_, ?_, ?_, passWaits_setHead freed.pass h _⟩
    · simpa using freed.exchange
    · cases h <;> exact freed.left
    · cases h <;> exact freed.right
  · exact ⟨counted.handler.setHead h _, counted.sequencer.staged (by simpa using busy) h _,
      counted.isolation.same (by simp) (by simp)⟩

theorem Coupled.stageDirectFrames (coupled : Coupled s) : Coupled (stageDirectFrames s) := by
  unfold Machine.stageDirectFrames
  exact List.foldlRecOn (motive := Coupled) s.presentHeads _ coupled fun _ held h _ => held.stageFrame h _

/-! ## The end of an exchange (R104, R120 to R126) -/

theorem Transferring.endTransfer (transfer : Transferring h s) : Coupled (endTransfer h s) := by
  have idle := transfer.handler.setHead h { s.head h with live := none }
  refine Freed.arbitrate ⟨idle.same rfl rfl rfl rfl, rfl, ?_, ?_, ?_, passWaits_setHead transfer.pass h _⟩
  · simpa using transfer.exchange
  · cases h
    · rfl
    · exact transfer.other
  · cases h
    · exact transfer.other
    · rfl

theorem Transferring.truncateTransfer (transfer : Transferring h s) : Coupled (truncateTransfer h s) := by
  have moved := transfer.handler.setHead h { s.head h with cursor := ((s.head h).cursor + s.progress) % s.nodeCount h }
  refine Transferring.endTransfer ⟨moved.same rfl rfl rfl rfl, ?_, ?_, ?_, ?_, passWaits_setHead transfer.pass h _⟩
  · simpa using transfer.grant
  · simpa using transfer.exchange
  · cases h <;> exact transfer.live
  · cases h <;> exact transfer.other

theorem Transferring.continueTransfer (transfer : Transferring h s) : Coupled (continueTransfer h s) := by
  have sent : Transferring h { s with progress := s.progress + 1 } :=
    ⟨transfer.handler.same rfl rfl rfl rfl, transfer.grant, transfer.exchange, transfer.live, transfer.other, transfer.pass⟩
  unfold Machine.continueTransfer
  dsimp only
  split
  · exact sent.endTransfer
  · split
    · exact sent.truncateTransfer
    · exact sent.sendGroup

/-- A pass-through is outstanding only for the request that the Request Handler holds (R125, R163). -/
theorem HandlerLaw.serving (law : HandlerLaw s) (held : s.passThrough.isSome = true) :
    ∃ f, s.handler = .serving f ∧ s.inbound.length ≤ 4 := by
  obtain ⟨inbound, law⟩ := law
  cases handler : s.handler with
  | serving f => exact ⟨f, rfl, inbound⟩
  | idle =>
    rw [handler] at law
    obtain ⟨_, _, none⟩ := law
    rw [none] at held
    cases held
  | transmitting =>
    rw [handler] at law
    obtain ⟨_, none⟩ := law
    rw [none] at held
    cases held

/-- The end of a pass-through answers the request that waits for it (R126). -/
theorem coupled_completePass (law : HandlerLaw s) (exchange : s.exchange = none) (left : s.left.live = none)
    (right : s.right.live = none) (held : s.passThrough.isSome = true) (o : ExchangeOutcome) : Coupled (completePass o s) := by
  obtain ⟨f, serving, inbound⟩ := law.serving held
  unfold completePass
  rw [answerHeld_serving (s := { s with grant := .none, passThrough := none }) serving]
  exact Freed.arbitrate ⟨⟨inbound, rfl, rfl⟩, rfl, exchange, left, right, nofun⟩

/-- What an exchange leaves of its grant: the transfer or the pass-through goes on from it (R117). -/
theorem Coupled.completeExchange (coupled : Coupled s) {x : Exchange} (sent : s.exchange = some x) (o : ExchangeOutcome) :
    Coupled (completeExchange x o s) := by
  obtain ⟨handler, sequencer, _⟩ := coupled
  obtain ⟨nodes, faults, faultOverflow, counters, judged⟩ := judgedOutcome_eq x o s
  unfold SequencerLaw at sequencer
  cases granted : s.grant with
  | none =>
    rw [granted] at sequencer
    obtain ⟨none, _⟩ := sequencer
    cases none.symm.trans sent
  | head h =>
    rw [granted] at sequencer
    obtain ⟨_, live, other, waits⟩ := sequencer
    rw [completeExchange_head granted, judged]
    exact Transferring.continueTransfer ⟨handler.same rfl rfl rfl rfl, granted, rfl, live, other, waits⟩
  | pass =>
    rw [granted] at sequencer
    obtain ⟨_, left, right, p, held, _⟩ := sequencer
    rw [completeExchange_pass granted, judged]
    have law : HandlerLaw { s with exchange := none, nodes, faults, faultOverflow, counters } := handler.same rfl rfl rfl rfl
    exact coupled_completePass law rfl left right (Option.isSome_of_eq_some held) o

/-! ## The exchange goes on (R115, R116) -/

theorem Coupled.setPhase (coupled : Coupled s) {x : Exchange} (sent : s.exchange = some x) (phase : ExchangePhase) :
    Coupled (setPhase x phase s) := by
  obtain ⟨handler, sequencer, isolation⟩ := coupled
  refine ⟨handler.same rfl rfl rfl rfl, ?_, fun y levels moved content isolated => ?_⟩
  · have same : (Machine.setPhase x phase s).grant = s.grant := rfl
    unfold SequencerLaw at *
    rw [same]
    cases granted : s.grant with
    | none =>
      rw [granted] at sequencer
      obtain ⟨none, _⟩ := sequencer
      cases none.symm.trans sent
    | head h =>
      rw [granted] at sequencer
      obtain ⟨_, rest⟩ := sequencer
      exact ⟨rfl, rest⟩
    | pass =>
      rw [granted] at sequencer
      obtain ⟨_, rest⟩ := sequencer
      exact ⟨rfl, rest⟩
  · cases moved
    exact isolation x levels sent content isolated

theorem Coupled.finishBlock (coupled : Coupled s) : Coupled (finishBlock s) := by
  unfold Machine.finishBlock
  split
  · exact coupled
  · rename_i x sent
    exact coupled.setPhase sent _

theorem Coupled.failExchange (coupled : Coupled s) : Coupled (failExchange s) := by
  unfold Machine.failExchange
  split
  · exact coupled
  · rename_i x sent
    exact coupled.completeExchange sent _

theorem Coupled.receiveEchoInput (coupled : Coupled s) (port : Head) (input : LineInput) (stopLow : Bool) :
    Coupled (receiveEchoInput port input stopLow s) :=
  receiveEchoInput_cases port input stopLow coupled (fun _ _ _ _ sent _ _ => coupled.setPhase sent _)
    (fun _ _ _ sent _ _ => coupled.setPhase sent _) (fun _ o sent => coupled.completeExchange sent o)

/-! ## Composer and modes -/

theorem Coupled.finishHeadStage (coupled : Coupled s) : Coupled (finishHeadStage s) := by
  unfold Machine.finishHeadStage
  split
  · exact coupled
  · rename_i c _
    split
    · exact coupled.same rfl
    · rename_i h rest _
      have levels : Coupled { s.setHead h { s.head h with applied := composedLevels s c h (compositionShadows s c h) } with
          composition := some (c.composed h (compositionShadows s c h) rest) } := coupled.same (by cases h <;> rfl)
      have staged := levels.stageFrame h (composedLevels s c h (compositionShadows s c h))
      unfold endHeadStage
      dsimp only
      split
      · exact staged.same rfl
      · exact staged

theorem Coupled.frameClock (coupled : Coupled s) : Coupled (frameClock s) := by
  have next : Coupled { s with framePhase := s.framePhase.map (· + millis s.framePeriod) } := coupled.same rfl
  exact takeFrameStart_cases (fun _ => next.same rfl) (fun _ _ => next.same rfl) (fun _ => next.stageDirectFrames)
    (fun _ => next)

theorem coupling_faults (only : OnlyFaults s t) : t.coupling = s.coupling := by rw [only]; rfl

theorem coupling_latch (kind : FaultKind) (subject : Nat) (s : State) : (latch kind subject s).coupling = s.coupling :=
  coupling_faults (latchFault_only kind subject s.timeBase s)

theorem coupling_table (only : OnlyTable s t) : t.coupling = s.coupling := by rw [only]; rfl

/-- Teardown ends the grant and all that it holds in flight (R154). -/
theorem quiet_teardown (inbound : s.inbound.length ≤ 4) : Quiet (teardown s) :=
  ⟨inbound, rfl, ⟨rfl, rfl, rfl, rfl, rfl, rfl⟩, nofun⟩

/-- A reply while no pass-through is outstanding (R163). -/
theorem Quiet.answer (quiet : Quiet s) (f : LinkFrame) (status : Status) (part : List Byte) :
    Coupled (answer f status part s) := by
  have grant : (Machine.answer f status part s).grant = s.grant := rfl
  refine ⟨⟨quiet.inbound, rfl, quiet.pass⟩, ?_, quiet.isolation.same rfl rfl⟩
  have law := quiet.sequencer
  unfold SequencerLaw at *
  rw [grant]
  cases granted : s.grant <;> rw [granted] at law <;> exact law

/-- A DIRECT stay ends with the reply to the pass-through that it cuts off (R127, R155). -/
theorem quiet_abortDirect (inbound : s.inbound.length ≤ 4) : Quiet (abortDirect s) := by
  have latched : Quiet (latch .directAborted 0 (teardown s)) :=
    (quiet_teardown inbound).same (coupling_latch _ _ _)
  unfold abortDirect answerHeld
  split
  · obtain ⟨⟨inbound, _⟩, sequencer, isolation⟩ := latched.answer _ .wrongState []
    exact ⟨inbound, latched.pass, sequencer, isolation⟩
  · exact latched
  · exact latched

theorem Coupled.abortDirect (coupled : Coupled s) : Coupled (abortDirect s) := by
  have same := coupling_latch .directAborted 0 (teardown s)
  have kept : (latch .directAborted 0 (teardown s)).handler = s.handler := by simp; rfl
  have latched : Quiet (latch .directAborted 0 (teardown s)) := (quiet_teardown coupled.handler.1).same same
  obtain ⟨inbound, law⟩ := coupled.handler
  unfold Machine.abortDirect
  cases handler : s.handler with
  | serving f =>
    rw [answerHeld_serving (kept.trans handler)]
    exact latched.answer f _ _
  | idle =>
    rw [handler] at law
    obtain ⟨empty, unsent, _⟩ := law
    rw [answerHeld_unheld fun f serving => by cases (kept.trans handler).symm.trans serving]
    refine Coupled.same (s := teardown s) ⟨⟨inbound, ?_⟩, (quiet_teardown inbound).sequencer, nofun⟩ same
    rw [show (teardown s).handler = .idle from handler]
    exact ⟨empty, unsent, rfl⟩
  | transmitting =>
    rw [handler] at law
    obtain ⟨sending, _⟩ := law
    rw [answerHeld_unheld fun f serving => by cases (kept.trans handler).symm.trans serving]
    refine Coupled.same (s := teardown s) ⟨⟨inbound, ?_⟩, (quiet_teardown inbound).sequencer, nofun⟩ same
    rw [show (teardown s).handler = .transmitting from handler]
    exact ⟨sending, rfl⟩

theorem Coupled.sceneTimerExpired (coupled : Coupled s) : Coupled (sceneTimerExpired s) :=
  sceneTimerExpired_cases (fun _ => coupled.same (coupling_latch .sceneLost 0 s))
    (fun _ => coupled.abortDirect) (fun _ _ => coupled.same rfl)

theorem Coupled.trackTimerExpired (coupled : Coupled s) : Coupled (trackTimerExpired s) :=
  trackTimerExpired_cases (fun _ => coupled.same (coupling_latch .trackLost 0 s))
    (fun _ => coupled.same rfl)

/-! ## The Calibration Store -/

theorem loadImage_coupling (image : List Byte) (s : State) : (loadImage image s).coupling = s.coupling :=
  List.foldlRecOn (motive := fun t => (completeAutoload t).coupling = s.coupling) (List.range 8) (judgeGroup image)
    (b := { s with holdingBuffer := image }) rfl fun _ same _ _ => by rw [judgeGroup_only]; exact same

theorem failAutoload_coupling (s : State) : (failAutoload s).coupling = s.coupling :=
  coupling_latch .calAbsent 0 { s with holdingBuffer := [], tables := defaultTables }

/-! ## Requests (R163, R164) -/

theorem afterSceneAccepted_quiet (quiet : Quiet s) : Quiet (afterSceneAccepted s) :=
  afterSceneAccepted_cases (fun _ => quiet) (fun _ => quiet.same rfl) (fun _ _ => quiet.same rfl) (fun _ _ => quiet.same rfl)
    (fun _ _ => quiet.same rfl) (fun _ => quiet_abortDirect quiet.inbound)

theorem afterTrackAccepted_quiet (quiet : Quiet s) : Quiet (afterTrackAccepted s) :=
  afterTrackAccepted_cases (fun _ _ => quiet) (fun _ => quiet.same rfl) (fun _ _ => quiet.same rfl) (fun _ _ => quiet.same rfl)

/-- An accepted NODE PASS is held by the Request Handler while its pass-through waits or is in flight (R118, R125). -/
theorem Quiet.holdPass (quiet : Quiet s) (unsent : s.replyBuffer = none) (f : LinkFrame) : Coupled (holdPass f s) := by
  obtain ⟨inbound, none, sequencer, isolation⟩ := quiet
  have handler : HandlerLaw { s with
      handler := .serving f
      passThrough := some { node := (byteAt f.payload 0).toNat, bytes := f.payload.drop 1, inFlight := false } } :=
    ⟨inbound, unsent, rfl⟩
  have waits : PassWaits { s with
      handler := .serving f
      passThrough := some { node := (byteAt f.payload 0).toNat, bytes := f.payload.drop 1, inFlight := false } } := by
    rintro p held
    cases held
    rfl
  unfold SequencerLaw at sequencer
  cases granted : s.grant with
  | none =>
    rw [granted] at sequencer
    obtain ⟨exchange, left, right, _⟩ := sequencer
    exact coupled_requestArrived (fun free => ⟨handler, free, exchange, left, right, waits⟩) (absurd granted)
  | head h =>
    rw [granted] at sequencer
    obtain ⟨exchange, live, other, _⟩ := sequencer
    refine coupled_requestArrived (fun free => by cases granted.symm.trans free) (fun _ => ⟨handler, ?_, isolation⟩)
    unfold SequencerLaw
    dsimp only
    rw [granted]
    exact ⟨exchange, live, other, waits⟩
  | pass =>
    rw [granted] at sequencer
    obtain ⟨_, _, _, p, held, _⟩ := sequencer
    cases none.symm.trans held

theorem Quiet.servedBy (quiet : Quiet s) (unsent : s.replyBuffer = none) (f : LinkFrame) : ServedBy Quiet Coupled f s where
  answered status part kept := kept.answer f status part
  emptied kept := kept.same rfl
  cleared kept := kept.same rfl
  unchanged := quiet
  scene _ := afterSceneAccepted_quiet (quiet.same rfl)
  track _ n bytes := by
    have heard : Quiet { s with lastTrackTime := s.timeBase, trackAccepted := true } := quiet.same rfl
    exact (afterTrackAccepted_quiet heard).same (coupling_table (observeAll_only _ _ _))
  drop _ id := quiet.same (coupling_table (dropEntries_only id s))
  teardown _ := quiet_teardown quiet.inbound
  enterActive _ _ := quiet.same rfl
  enterDirect _ _ _ _ := quiet.same rfl
  write _ table n index bytes := by rw [writeItems_only]; exact quiet.same rfl
  direct _ h g values := quiet.same (by cases h <;> rfl)
  pass _ := quiet.holdPass unsent f

/-- The Request Handler that has become free takes the oldest frame, if there is one (R163). -/
theorem Quiet.takeNext (quiet : Quiet s) (idle : s.handler = .idle) (unsent : s.replyBuffer = none) : Coupled (takeNext s) := by
  unfold Machine.takeNext
  split
  · rename_i serving
    cases idle.symm.trans serving
  · rename_i transmitting
    cases idle.symm.trans transmitting
  · split
    · rename_i empty
      refine ⟨⟨quiet.inbound, ?_⟩, quiet.sequencer, quiet.isolation⟩
      rw [idle]
      exact ⟨empty, unsent, quiet.pass⟩
    · rename_i f rest waiting
      have inbound := quiet.inbound
      rw [waiting, List.length_cons] at inbound
      have taken : Quiet { s with inbound := rest } :=
        ⟨Nat.le_of_succ_le inbound, quiet.pass, quiet.sequencer, quiet.isolation⟩
      exact (taken.servedBy unsent f).serve

theorem Coupled.quiet (coupled : Coupled s) (pass : s.passThrough = none) : Quiet s :=
  ⟨coupled.handler.1, pass, coupled.sequencer, coupled.isolation⟩

theorem Coupled.offerFrame (coupled : Coupled s) (f : LinkFrame) : Coupled (offerFrame f s) := by
  by_cases room : s.inbound.length < 4
  · by_cases idle : s.handler = .idle
    · obtain ⟨_, law⟩ := coupled.handler
      rw [idle] at law
      obtain ⟨_, unsent, pass⟩ := law
      have quiet := coupled.quiet pass
      rw [Machine.offerFrame, if_pos room]
      refine Quiet.takeNext ⟨?_, pass, quiet.sequencer, quiet.isolation⟩ idle unsent
      simp only [List.length_append, List.length_singleton]
      omega
    · rw [offerFrame_queued room idle]
      obtain ⟨⟨_, law⟩, sequencer, isolation⟩ := coupled
      refine ⟨⟨?_, ?_⟩, sequencer, isolation⟩
      · simp only [List.length_append, List.length_singleton]
        omega
      · dsimp only
        cases handler : s.handler with
        | idle => exact absurd handler idle
        | serving g => rw [handler] at law; exact law
        | transmitting => rw [handler] at law; exact law
  · rw [offerFrame_full (Nat.le_of_not_lt room)]
    exact coupled.same rfl

/-- A reply is sent only by a Request Handler in TRANSMITTING, with no pass-through outstanding (R163, R166). -/
theorem Coupled.finishReply (coupled : Coupled s) (sending : s.replyBuffer.isSome = true) : Coupled (finishReply s) := by
  obtain ⟨⟨inbound, law⟩, sequencer, isolation⟩ := coupled
  have pass : s.passThrough = none := by
    cases handler : s.handler with
    | idle =>
      rw [handler] at law
      exact law.2.2
    | serving f =>
      rw [handler] at law
      obtain ⟨unsent, _⟩ := law
      rw [unsent] at sending
      cases sending
    | transmitting =>
      rw [handler] at law
      exact law.2
  exact Quiet.takeNext (s := { s with replyBuffer := none, handler := .idle }) ⟨inbound, pass, sequencer, isolation⟩ rfl rfl

end

/-! ## Steps -/

theorem coupled_keptThroughout : KeptThroughout Coupled where
  queue _ _ coupled := coupled.same rfl
  pass _ coupled := coupled.same rfl
  silence coupled := coupled.same rfl
  startBit coupled := coupled.same rfl
  framer _ _ _ coupled := coupled.same rfl
  count _ coupled := coupled.same rfl
  offerFrame f coupled := coupled.offerFrame f
  finishReply sending coupled := coupled.finishReply sending
  reset _ _ _ := ⟨⟨Nat.zero_le _, rfl, rfl, rfl⟩, ⟨rfl, rfl, rfl, rfl, rfl, rfl⟩, nofun⟩
  loadImage {s} image _ coupled := coupled.same (loadImage_coupling image s)
  failAutoload {s} _ coupled := coupled.same (failAutoload_coupling s)
  sceneTimerExpired coupled := coupled.sceneTimerExpired
  trackTimerExpired coupled := coupled.trackTimerExpired
  frameClock _ coupled := coupled.frameClock
  finishHeadStage coupled := coupled.finishHeadStage
  finishBlock coupled := coupled.finishBlock
  failExchange coupled := coupled.failExchange
  receiveEchoInput port input stopLow coupled := coupled.receiveEchoInput port input stopLow

end Sys2Proof.Machine
end

section
/-! PROOFS. The node records keep their counts in range (R129, R133, R134). -/

namespace Sys2Proof.Machine

/-! ## One record (R129) -/

/-- The counts of a record are in range for a mismatch_limit. -/
abbrev NodeRecord.countsFit (limit : Nat) (r : NodeRecord) : Prop :=
  r.mismatchCount ≤ 8 ∧ r.failCount ≤ 255 ∧ (r.state ≠ .isolated → r.mismatchCount < limit)

section
variable {limit : Nat} {r : NodeRecord}

theorem countsFit_rest (positive : 1 ≤ limit) : NodeRecord.rest.countsFit limit :=
  ⟨Nat.zero_le _, Nat.zero_le _, fun _ => positive⟩

theorem NodeRecord.countsFit.levelsEcho (fit : r.countsFit limit) (judged : r.state ≠ .isolated) (positive : 1 ≤ limit)
    (bounded : limit ≤ 8) (mismatch : Bool) (echo : LastEcho) : (afterLevelsEcho limit mismatch echo r).countsFit limit := by
  obtain ⟨_, _, below⟩ := fit
  have counted := below judged
  cases mismatch with
  | false =>
    rw [afterLevelsEcho_matching]
    exact ⟨Nat.zero_le _, Nat.zero_le _, fun _ => positive⟩
  | true =>
    by_cases reached : limit ≤ r.mismatchCount + 1
    · rw [afterLevelsEcho_isolated reached]
      exact ⟨by dsimp only; omega, Nat.zero_le _, fun outside => absurd rfl outside⟩
    · rw [afterLevelsEcho_suspect (Nat.not_le.1 reached)]
      exact ⟨by dsimp only; omega, Nat.zero_le _, fun _ => Nat.not_le.1 reached⟩

/-- A service echo and a failure leave the mismatches as they are. -/
theorem NodeRecord.countsFit.serviceEcho (fit : r.countsFit limit) (judged : r.state ≠ .isolated) :
    (afterServiceEcho r).countsFit limit := by
  obtain ⟨mismatches, _, below⟩ := fit
  exact ⟨mismatches, Nat.zero_le _, fun _ => below judged⟩

theorem NodeRecord.countsFit.failure (fit : r.countsFit limit) (judged : r.state ≠ .isolated) (silentLimit : Nat) :
    (afterFailure silentLimit r).countsFit limit := by
  obtain ⟨mismatches, _, below⟩ := fit
  exact ⟨mismatches, Nat.min_le_left _ _, fun _ => below judged⟩

end

/-! ## All records -/

section
variable {s t : State}

theorem NodeLaw.same (law : NodeLaw s) (nodes : t.nodes = s.nodes) (tables : t.tables = s.tables) : NodeLaw t := by
  rw [NodeLaw, nodes, State.itemNat, item_congr tables]
  exact law

/-- mismatch_limit is 1 to 8 (R175). -/
theorem mismatchLimit_range (calibration : CalibrationLaw s) : 1 ≤ s.itemNat 1 6 ∧ s.itemNat 1 6 ≤ 8 := by
  obtain ⟨low, high⟩ := item_in_range (item := ⟨1, 8, 3⟩) calibration (t := 1) (i := 6) (by decide) rfl
  unfold State.itemNat
  dsimp only at low high
  omega

theorem nodeLaw_rest (calibration : CalibrationLaw s) (rests : s.nodes = restNodes) : NodeLaw s := by
  rw [NodeLaw, rests]
  refine ⟨List.length_replicate, fun r hr => ?_⟩
  obtain rfl := List.eq_of_mem_replicate hr
  exact countsFit_rest (mismatchLimit_range calibration).1

/-- The record of a node id is one of the thirty, or that of a node never heard of. -/
theorem NodeLaw.node (law : NodeLaw s) (calibration : CalibrationLaw s) (id : Nat) :
    (s.node id).countsFit (s.itemNat 1 6) := by
  rw [State.node, List.getD_eq_getElem?_getD]
  cases held : s.nodes[id - 1]? with
  | none => exact countsFit_rest (mismatchLimit_range calibration).1
  | some r => exact law.2 r (List.mem_of_getElem? held)

theorem NodeLaw.setNode (law : NodeLaw s) (id : Nat) {r : NodeRecord} (fit : r.countsFit (s.itemNat 1 6)) :
    NodeLaw (setNode id r s) := by
  obtain ⟨length, all⟩ := law
  refine ⟨List.length_set.trans length, fun q hq => ?_⟩
  rcases List.mem_or_eq_of_mem_set hq with old | rfl
  · exact all q old
  · exact fit

/-- The faults that an outcome latches do not meet the record (R138). -/
theorem NodeLaw.setNode_faults (law : NodeLaw s) (only : OnlyFaults s t) (id : Nat) {r : NodeRecord}
    (fit : r.countsFit (s.itemNat 1 6)) : NodeLaw (Machine.setNode id r t) := by
  rw [only]
  exact law.setNode id fit

/-- An outcome moves the record of its node within the ranges (R130 to R137). -/
theorem NodeLaw.nodeOutcome (law : NodeLaw s) (calibration : CalibrationLaw s) (id : Nat) (o : ExchangeOutcome) :
    NodeLaw (nodeOutcome id o s) := by
  have fit := law.node calibration id
  obtain ⟨positive, bounded⟩ := mismatchLimit_range calibration
  by_cases isolated : (s.node id).state = .isolated
  · rw [nodeOutcome_isolated isolated]
    exact law
  · cases o with
    | goodLevels sent echoed echo =>
      rw [nodeOutcome_goodLevels isolated sent echoed echo rfl]
      exact law.setNode_faults ((latchStrings_only id echo s).trans (latchIf_only _ _ _ _)) id
        (fit.levelsEcho isolated positive bounded _ echo)
    | goodService bytes =>
      rw [nodeOutcome_goodService isolated bytes rfl]
      exact law.setNode id (fit.serviceEcho isolated)
    | failed =>
      rw [nodeOutcome_failed isolated rfl]
      exact law.setNode_faults (latchIf_only _ _ _ _) id (fit.failure isolated _)

/-- Of the completion of an exchange the judging of its outcome alone meets the records (R117). -/
theorem completeExchange_nodes (x : Exchange) (o : ExchangeOutcome) (s : State) :
    (completeExchange x o s).nodes = (judgedOutcome x o s).nodes := by
  cases granted : s.grant with
  | none => simp only [completeExchange, granted, judgedOutcome]
  | head h =>
    have only := continueTransfer_only h (judgedOutcome x o s)
    rw [completeExchange_head granted, only]
  | pass =>
    have only := arbitrate_only (answerHeld (passAnswer o).1 (passAnswer o).2
      { judgedOutcome x o s with grant := .none, passThrough := none })
    rw [completeExchange_pass granted, completePass, only, answerHeld_only]

theorem NodeLaw.completeExchange (law : NodeLaw s) (calibration : CalibrationLaw s) (x : Exchange) (o : ExchangeOutcome) :
    NodeLaw (completeExchange x o s) := by
  have idle : NodeLaw { s with exchange := none } := law
  have judged : NodeLaw (judgedOutcome x o s) := by
    unfold judgedOutcome countFailure
    split
    · exact idle.nodeOutcome calibration x.node o
    · exact idle.nodeOutcome calibration x.node o
  obtain ⟨nodes, faults, faultOverflow, counters, e⟩ := judgedOutcome_eq x o s
  refine judged.same (completeExchange_nodes x o s) ?_
  rw [(completeExchange_only x o s).tables, e]

theorem NodeLaw.failExchange (law : NodeLaw s) (calibration : CalibrationLaw s) : NodeLaw (failExchange s) := by
  unfold Machine.failExchange
  split
  · exact law
  · exact law.completeExchange calibration _ _

theorem NodeLaw.receiveEchoInput (law : NodeLaw s) (calibration : CalibrationLaw s) (port : Head) (input : LineInput)
    (stopLow : Bool) : NodeLaw (receiveEchoInput port input stopLow s) :=
  receiveEchoInput_cases port input stopLow law (fun _ _ _ _ _ _ _ => law) (fun _ _ _ _ _ _ => law)
    (fun x o _ => law.completeExchange calibration x o)

/-! ## Modes and frame path -/

theorem NodeLaw.faults (law : NodeLaw s) (only : OnlyFaults s t) : NodeLaw t := law.same (by rw [only]) (by rw [only])

theorem NodeLaw.latch (law : NodeLaw s) (kind : FaultKind) (subject : Nat) : NodeLaw (latch kind subject s) :=
  law.faults (latchFault_only kind subject s.timeBase s)

theorem NodeLaw.table (law : NodeLaw s) (only : OnlyTable s t) : NodeLaw t := law.same (by rw [only]) (by rw [only])

theorem NodeLaw.sequencer (law : NodeLaw s) (only : OnlySequencer s t) : NodeLaw t := law.same (by rw [only]) (by rw [only])

theorem nodeLaw_abortDirect (calibration : CalibrationLaw s) : NodeLaw (abortDirect s) := by
  have torn : NodeLaw (teardown s) := nodeLaw_rest (s := teardown s) calibration rfl
  have latched : NodeLaw (latch .directAborted 0 (teardown s)) := torn.latch _ _
  unfold abortDirect
  rw [answerHeld_only]
  exact latched

theorem NodeLaw.sceneTimerExpired (law : NodeLaw s) (calibration : CalibrationLaw s) : NodeLaw (sceneTimerExpired s) :=
  sceneTimerExpired_cases (fun _ => law.latch .sceneLost 0)
    (fun _ => nodeLaw_abortDirect calibration) (fun _ _ => law)

theorem NodeLaw.trackTimerExpired (law : NodeLaw s) : NodeLaw (trackTimerExpired s) :=
  trackTimerExpired_cases (fun _ => law.latch .trackLost 0) (fun _ => law)

theorem NodeLaw.frameClock (law : NodeLaw s) : NodeLaw (frameClock s) := by
  have next : NodeLaw { s with framePhase := s.framePhase.map (· + millis s.framePeriod) } := law
  exact takeFrameStart_cases (fun _ => next) (fun _ _ => next) (fun _ => next.sequencer (stageDirectFrames_only _)) (fun _ => next)

theorem NodeLaw.finishHeadStage (law : NodeLaw s) : NodeLaw (finishHeadStage s) :=
  sequencer (s := { s with composition := (Machine.finishHeadStage s).composition }) law (finishHeadStage_only s)

theorem loadImage_nodes (image : List Byte) (s : State) : (loadImage image s).nodes = s.nodes :=
  List.foldlRecOn (motive := fun t => t.nodes = s.nodes) (List.range 8) (judgeGroup image)
    (b := { s with holdingBuffer := image }) rfl fun _ same _ _ => by rw [judgeGroup_only]; exact same

theorem failAutoload_nodes (s : State) : (failAutoload s).nodes = s.nodes := by
  have only := latchFault_only .calAbsent 0 s.timeBase { s with holdingBuffer := [], tables := defaultTables }
  exact (congrArg State.nodes only :)

theorem RestLaw.nodes_rest (law : RestLaw s) (rests : AtRest s) : s.nodes = restNodes := by
  obtain ⟨_, _, _, _, _, _, _, _, _, _, nodes⟩ := law.2 rests
  exact nodes

/-! ## Requests -/

theorem NodeLaw.servedBy (law : NodeLaw s) (calibration : CalibrationLaw s) (rest : RestLaw s) (f : LinkFrame) :
    ServedBy NodeLaw NodeLaw f s where
  answered _ _ kept := kept
  emptied kept := kept
  cleared kept := kept
  unchanged := law
  scene _ := afterSceneAccepted_cases (fun _ => law) (fun _ => law) (fun _ _ => law) (fun _ _ => law) (fun _ _ => law)
    (fun _ => nodeLaw_abortDirect (s := { s with scene := (takeScene f.payload s.timeBase s.scene).1 }) calibration)
  track _ n bytes := by
    have accepted : NodeLaw (afterTrackAccepted { s with lastTrackTime := s.timeBase, trackAccepted := true }) :=
      afterTrackAccepted_cases (fun _ _ => law) (fun _ => law) (fun _ _ => law) (fun _ _ => law)
    exact accepted.table (observeAll_only _ _ _)
  drop _ id := law.table (dropEntries_only id s)
  teardown _ := nodeLaw_rest (s := teardown s) calibration rfl
  enterActive _ _ := law
  enterDirect _ _ _ _ := law
  write standby table n index bytes := by
    refine nodeLaw_rest (calibration.writeItems table n index bytes) ?_
    rw [writeItems_only]
    exact rest.nodes_rest (.inr standby)
  direct _ h g values := law.sequencer (setHead_only h _ s)
  pass _ := by
    have held : NodeLaw { s with
        handler := .serving f
        passThrough := some { node := (byteAt f.payload 0).toNat, bytes := f.payload.drop 1, inFlight := false } } := law
    exact held.sequencer (requestArrived_only _)

end

/-! ## Steps -/

/-- The law with those under which every step keeps it. -/
structure NodesHeld (s : State) : Prop where
  calibration : CalibrationLaw s
  rest : RestLaw s
  nodes : NodeLaw s

theorem nodesHeld_keptByParts : KeptByParts NodesHeld := by
  have calibration := calibrationLaw_keptByParts
  have rest := restLaw_keptByParts
  exact {
    link := fun only ⟨c, r, n⟩ => ⟨calibration.link only c, rest.link only r, n.same (by rw [only]) (by rw [only])⟩
    count := fun id ⟨c, r, n⟩ => ⟨calibration.count id c, rest.count id r, n⟩
    reset := fun strap pending ties =>
      ⟨calibration.reset strap pending ties, rest.reset strap pending ties, nodeLaw_reset⟩
    loadImage := fun {s} image loading ⟨c, r, _⟩ => by
      have loaded := calibration.loadImage image loading c
      refine ⟨loaded, rest.loadImage image loading r, nodeLaw_rest loaded ?_⟩
      rw [loadImage_nodes, r.nodes_rest (atRest_of_loading r.1 loading)]
    failAutoload := fun {s} loading ⟨c, r, _⟩ => by
      have loaded := calibration.failAutoload loading c
      refine ⟨loaded, rest.failAutoload loading r, nodeLaw_rest loaded ?_⟩
      rw [failAutoload_nodes, r.nodes_rest (atRest_of_loading r.1 loading)]
    serve := fun f ⟨c, r, n⟩ => ⟨calibration.serve f c, rest.serve f r, (n.servedBy c r f).serve⟩
    sceneTimerExpired := fun ⟨c, r, n⟩ =>
      ⟨calibration.sceneTimerExpired c, rest.sceneTimerExpired r, n.sceneTimerExpired c⟩
    trackTimerExpired := fun ⟨c, r, n⟩ =>
      ⟨calibration.trackTimerExpired c, rest.trackTimerExpired r, n.trackTimerExpired⟩
    frameClock := fun ⟨c, r, n⟩ => ⟨calibration.frameClock c, rest.frameClock r, n.frameClock⟩
    finishHeadStage := fun ⟨c, r, n⟩ => ⟨calibration.finishHeadStage c, rest.finishHeadStage r, n.finishHeadStage⟩
    finishBlock := fun {s} ⟨c, r, n⟩ => by
      refine ⟨calibration.finishBlock c, rest.finishBlock r, n.same ?_ (finishBlock_only s).tables⟩
      unfold finishBlock
      split <;> rfl
    failExchange := fun ⟨c, r, n⟩ => ⟨calibration.failExchange c, rest.failExchange r, n.failExchange c⟩
    receiveEchoInput := fun port input stopLow ⟨c, r, n⟩ =>
      ⟨calibration.receiveEchoInput port input stopLow c, rest.receiveEchoInput port input stopLow r,
        n.receiveEchoInput c port input stopLow⟩ }

end Sys2Proof.Machine
end

section
/-! PROOFS. While frames are sent, the send cursor of a present head is one of its groups (R113, R123). -/

namespace Sys2Proof.Machine

/-- The send cursor of each present head is one of its groups. -/
abbrev CursorsFit (s : State) : Prop := ∀ h, s.present h = true → (s.head h).cursor < s.nodeCount h

section
variable {s t : State}

theorem present_congr (tables : t.tables = s.tables) (h : Head) : t.present h = s.present h := by
  cases h <;> simp only [State.present, State.firstNode, State.lastNode, item_congr tables]

theorem nodeCount_congr (tables : t.tables = s.tables) (h : Head) : t.nodeCount h = s.nodeCount h := by
  rw [State.nodeCount, State.nodeCount, present_congr tables]
  cases h <;> simp only [State.firstNode, State.lastNode, item_congr tables]

theorem CursorsFit.same (fit : CursorsFit s) (left : t.left.cursor = s.left.cursor) (right : t.right.cursor = s.right.cursor)
    (tables : t.tables = s.tables) : CursorsFit t := by
  intro h present
  have cursor : (t.head h).cursor = (s.head h).cursor := by
    cases h
    · exact left
    · exact right
  rw [present_congr tables] at present
  rw [cursor, nodeCount_congr tables]
  exact fit h present

/-- A head is replaced by one whose cursor is one of its groups. -/
theorem CursorsFit.setHead (fit : CursorsFit s) {h : Head} {hs : HeadState} (cursor : s.present h = true → hs.cursor < s.nodeCount h) :
    CursorsFit (s.setHead h hs) := by
  have tables : (s.setHead h hs).tables = s.tables := by simp
  intro k present
  rw [present_congr tables] at present
  rw [nodeCount_congr tables]
  cases h <;> cases k
  · exact cursor present
  · exact fit .right present
  · exact fit .left present
  · exact cursor present

/-- With its cursor as it was. -/
theorem CursorsFit.setHead_same (fit : CursorsFit s) {h : Head} {hs : HeadState} (cursor : hs.cursor = (s.head h).cursor) :
    CursorsFit (s.setHead h hs) :=
  fit.setHead fun present => cursor ▸ fit h present

/-! ## The Link Sequencer -/

theorem CursorsFit.grantHead (fit : CursorsFit s) (h : Head) : CursorsFit (grantHead h s) := by
  unfold Machine.grantHead
  split
  · exact fit
  · rename_i f _
    have live : CursorsFit (s.setHead h { s.head h with staged := none, live := some f.levels }) := fit.setHead_same rfl
    exact live.same rfl rfl rfl

theorem CursorsFit.arbitrate (fit : CursorsFit s) : CursorsFit (arbitrate s) :=
  arbitrate_cases (fun _ _ _ => fit) (fun _ _ _ => fit.same rfl rfl rfl) (fun h _ _ _ => fit.grantHead h) (fun _ _ _ => fit)

theorem CursorsFit.requestArrived (fit : CursorsFit s) : CursorsFit (requestArrived s) := by
  unfold Machine.requestArrived
  split
  · exact fit.arbitrate
  · exact fit

theorem CursorsFit.stageFrame (fit : CursorsFit s) (h : Head) (levels : List Nat) : CursorsFit (stageFrame h levels s) := by
  have counted : CursorsFit (if (s.head h).staged.isSome then countEvent (.superseded h) s else s) := by
    split
    · exact fit.same rfl rfl rfl
    · exact fit
  unfold Machine.stageFrame
  dsimp only
  generalize (if (s.head h).staged.isSome then countEvent (.superseded h) s else s) = u at counted ⊢
  refine requestArrived (setHead_same counted ?_)
  rfl

theorem CursorsFit.stageDirectFrames (fit : CursorsFit s) : CursorsFit (stageDirectFrames s) := by
  unfold Machine.stageDirectFrames
  exact List.foldlRecOn (motive := CursorsFit) s.presentHeads _ fit fun _ held h _ => held.stageFrame h _

theorem CursorsFit.endTransfer (fit : CursorsFit s) (h : Head) : CursorsFit (endTransfer h s) := by
  have idle : CursorsFit (s.setHead h { s.head h with live := none }) := fit.setHead_same rfl
  exact arbitrate (s := { s.setHead h { s.head h with live := none } with grant := .none }) (idle.same rfl rfl rfl)

/-- The cursor of a truncated transfer wraps at the node count (R122, R123). -/
theorem CursorsFit.truncateTransfer (fit : CursorsFit s) (h : Head) : CursorsFit (truncateTransfer h s) := by
  have moved : CursorsFit (s.setHead h { s.head h with cursor := ((s.head h).cursor + s.progress) % s.nodeCount h }) :=
    fit.setHead fun present => Nat.mod_lt _ (Nat.zero_lt_of_lt (fit h present))
  exact endTransfer (s := countEvent (.truncated h) _) (moved.same rfl rfl rfl) h

theorem CursorsFit.continueTransfer (fit : CursorsFit s) (h : Head) : CursorsFit (continueTransfer h s) := by
  have sent : CursorsFit { s with progress := s.progress + 1 } := fit.same rfl rfl rfl
  unfold Machine.continueTransfer
  dsimp only
  split
  · exact sent.endTransfer h
  · split
    · exact sent.truncateTransfer h
    · exact sent.same rfl rfl rfl

theorem CursorsFit.completeExchange (fit : CursorsFit s) (x : Exchange) (o : ExchangeOutcome) :
    CursorsFit (completeExchange x o s) := by
  obtain ⟨nodes, faults, faultOverflow, counters, e⟩ := judgedOutcome_eq x o s
  have judged : CursorsFit (judgedOutcome x o s) := by
    rw [e]
    exact fit.same rfl rfl rfl
  cases granted : s.grant with
  | none =>
    have unheld : Machine.completeExchange x o s = judgedOutcome x o s := by
      simp only [Machine.completeExchange, granted, judgedOutcome]
    rw [unheld]
    exact judged
  | head h =>
    rw [completeExchange_head granted]
    exact judged.continueTransfer h
  | pass =>
    rw [completeExchange_pass granted]
    refine arbitrate ?_
    rw [answerHeld_only]
    exact judged.same rfl rfl rfl

theorem CursorsFit.failExchange (fit : CursorsFit s) : CursorsFit (failExchange s) := by
  unfold Machine.failExchange
  split
  · exact fit
  · exact fit.completeExchange _ _

theorem CursorsFit.finishBlock (fit : CursorsFit s) : CursorsFit (finishBlock s) := by
  unfold Machine.finishBlock
  split
  · exact fit
  · exact fit.same rfl rfl rfl

theorem CursorsFit.receiveEchoInput (fit : CursorsFit s) (port : Head) (input : LineInput) (stopLow : Bool) :
    CursorsFit (receiveEchoInput port input stopLow s) :=
  receiveEchoInput_cases port input stopLow fit (fun _ _ _ _ _ _ _ => fit.same rfl rfl rfl)
    (fun _ _ _ _ _ _ => fit.same rfl rfl rfl) (fun x o _ => fit.completeExchange x o)

theorem CursorsFit.finishHeadStage (fit : CursorsFit s) : CursorsFit (finishHeadStage s) := by
  unfold Machine.finishHeadStage
  split
  · exact fit
  · rename_i c _
    split
    · exact fit.same rfl rfl rfl
    · rename_i h rest _
      have levels : CursorsFit (s.setHead h { s.head h with applied := composedLevels s c h (compositionShadows s c h) }) :=
        fit.setHead_same rfl
      have staged := stageFrame (s := { s.setHead h
          { s.head h with applied := composedLevels s c h (compositionShadows s c h) } with
            composition := some (c.composed h (compositionShadows s c h) rest) })
        (levels.same rfl rfl rfl) h (composedLevels s c h (compositionShadows s c h))
      unfold endHeadStage
      dsimp only
      split
      · exact staged.same rfl rfl rfl
      · exact staged

/-! ## Entries (R146, R148, R149) -/

/-- The consistency check passes only where each present head drives at least one node (R146). -/
theorem nodeCount_pos (passed : s.firstFailure = none) {h : Head} (present : s.present h = true) : 0 < s.nodeCount h := by
  have all := List.find?_eq_none.1 passed
  have fits : s.lastFits h = true := by
    cases h
    · simpa using all ⟨s.lastFits .left, 0, 3⟩ (by simp [State.conditions])
    · simpa using all ⟨s.lastFits .right, 0, 5⟩ (by simp [State.conditions])
  rcases lastFits_iff.1 fits with absent | ⟨ordered, _⟩
  · exact absurd absent (present_iff_not_absent.1 present)
  · have count := nodeCount_present present ordered
    omega

/-- From rest the cursors are 0 (R113). -/
theorem cursorsFit_entry (rest : RestLaw s) (standby : s.mode = .standby) (passed : s.firstFailure = none) : CursorsFit s := by
  obtain ⟨left, right, _⟩ := rest.2 (.inr standby)
  intro h present
  have zero : (s.head h).cursor = 0 := by
    cases h
    · rw [State.head, left]; rfl
    · rw [State.head, right]; rfl
  rw [zero]
  exact nodeCount_pos passed present

end

/-! ## The law -/

section
variable {s t : State}

/-- Within the awake modes the cursors alone matter. -/
theorem cursorLaw_of_fit (fit : CursorsFit s) : CursorLaw s := fun _ => fit

theorem cursorLaw_of_rest (rests : AtRest s) : CursorLaw s := fun awake => absurd rests awake

theorem CursorLaw.within (law : CursorLaw s) (mode : t.mode = s.mode) (fit : CursorsFit s → CursorsFit t) : CursorLaw t :=
  fun awake => fit (law ((AtRest.same mode).not.1 awake))

theorem CursorLaw.faults (law : CursorLaw s) (only : OnlyFaults s t) : CursorLaw t := by rw [only]; exact law

theorem CursorLaw.table (law : CursorLaw s) (only : OnlyTable s t) : CursorLaw t := by rw [only]; exact law

theorem cursorLaw_abortDirect (s : State) : CursorLaw (abortDirect s) := by
  have standby : (abortDirect s).mode = .standby := by
    unfold abortDirect
    rw [answerHeld_only]
    simp [teardown]
  exact cursorLaw_of_rest (.inr standby)

theorem CursorLaw.sceneTimerExpired (law : CursorLaw s) : CursorLaw (sceneTimerExpired s) :=
  sceneTimerExpired_cases
    (fun active => by
      have latched : CursorLaw (latch .sceneLost 0 s) := law.faults (latchFault_only _ _ _ _)
      exact fun _ => latched (not_atRest_of_mode (by simpa using active)))
    (fun _ => cursorLaw_abortDirect s) (fun _ _ => law)

theorem CursorLaw.trackTimerExpired (law : CursorLaw s) : CursorLaw (trackTimerExpired s) :=
  trackTimerExpired_cases
    (fun active => by
      have latched : CursorLaw (latch .trackLost 0 s) := law.faults (latchFault_only _ _ _ _)
      exact fun _ => latched (not_atRest_of_mode (by simpa using active)))
    (fun _ => law)

theorem CursorLaw.frameClock (law : CursorLaw s) : CursorLaw (frameClock s) := by
  have next : CursorLaw { s with framePhase := s.framePhase.map (· + millis s.framePeriod) } := law
  refine takeFrameStart_cases (fun _ => next) (fun _ _ => next) (fun _ => ?_) (fun _ => next)
  exact next.within (stageDirectFrames_only _).lamps.mode fun fit => fit.stageDirectFrames

theorem completeAutoload_atRest (s : State) : AtRest (completeAutoload s) := .inr rfl

theorem CursorLaw.servedBy (law : CursorLaw s) (rest : RestLaw s) (f : LinkFrame) : ServedBy CursorLaw CursorLaw f s where
  answered _ _ kept := kept
  emptied kept := kept
  cleared kept := kept
  unchanged := law
  scene _ := afterSceneAccepted_cases (fun _ => law) (fun _ => law) (fun _ _ => law)
    (fun safe _ _ => law (not_atRest_of_mode safe)) (fun _ _ => law) (fun _ => cursorLaw_abortDirect _)
  track _ n bytes := by
    have accepted : CursorLaw (afterTrackAccepted { s with lastTrackTime := s.timeBase, trackAccepted := true }) :=
      afterTrackAccepted_cases (fun _ _ => law) (fun _ => law) (fun _ _ => law) (fun safe _ _ => law (not_atRest_of_mode safe))
    exact accepted.table (observeAll_only _ _ _)
  drop _ id := law.table (dropEntries_only id s)
  teardown _ := cursorLaw_of_rest (.inr rfl)
  enterActive standby passed := cursorLaw_of_fit ((cursorsFit_entry rest standby passed).same rfl rfl rfl)
  enterDirect standby passed _ _ := cursorLaw_of_fit ((cursorsFit_entry rest standby passed).same rfl rfl rfl)
  write standby table n index bytes := by
    refine cursorLaw_of_rest (.inr ?_)
    rw [writeItems_only]
    exact standby
  direct _ h g values := law.within (setHead_only h _ s).lamps.mode fun fit => fit.setHead_same rfl
  pass _ := by
    have held : CursorLaw { s with
        handler := .serving f
        passThrough := some { node := (byteAt f.payload 0).toNat, bytes := f.payload.drop 1, inFlight := false } } := law
    exact held.within (requestArrived_only _).lamps.mode fun fit => fit.requestArrived

end

/-! ## Steps -/

/-- The law with the one under which every step keeps it. -/
structure CursorsHeld (s : State) : Prop where
  rest : RestLaw s
  cursors : CursorLaw s

theorem cursorsHeld_keptByParts : KeptByParts CursorsHeld := by
  have rest := restLaw_keptByParts
  exact {
    link := fun only ⟨r, c⟩ => ⟨rest.link only r, by rw [only]; exact c⟩
    count := fun id ⟨r, c⟩ => ⟨rest.count id r, c⟩
    reset := fun strap pending ties => ⟨rest.reset strap pending ties, cursorLaw_of_rest (.inl rfl)⟩
    loadImage := fun image loading ⟨r, _⟩ =>
      ⟨rest.loadImage image loading r, cursorLaw_of_rest (completeAutoload_atRest _)⟩
    failAutoload := fun loading ⟨r, _⟩ => ⟨rest.failAutoload loading r, cursorLaw_of_rest (completeAutoload_atRest _)⟩
    serve := fun f ⟨r, c⟩ => ⟨rest.serve f r, (c.servedBy r f).serve⟩
    sceneTimerExpired := fun ⟨r, c⟩ => ⟨rest.sceneTimerExpired r, c.sceneTimerExpired⟩
    trackTimerExpired := fun ⟨r, c⟩ => ⟨rest.trackTimerExpired r, c.trackTimerExpired⟩
    frameClock := fun ⟨r, c⟩ => ⟨rest.frameClock r, c.frameClock⟩
    finishHeadStage := fun {s} ⟨r, c⟩ => ⟨rest.finishHeadStage r,
      c.within (finishHeadStage_only s).lamps.mode fun fit => fit.finishHeadStage⟩
    finishBlock := fun {s} ⟨r, c⟩ => ⟨rest.finishBlock r, c.within (finishBlock_only s).mode fun fit => fit.finishBlock⟩
    failExchange := fun {s} ⟨r, c⟩ =>
      ⟨rest.failExchange r, c.within (failExchange_only s).mode fun fit => fit.failExchange⟩
    receiveEchoInput := fun {s} port input stopLow ⟨r, c⟩ => ⟨rest.receiveEchoInput port input stopLow r,
      c.within (receiveEchoInput_only port input stopLow s).mode fun fit => fit.receiveEchoInput port input stopLow⟩ }

/-- Settles O56: handler and sequencer by `Coupled`, the records by `NodesHeld`, the cursors by `CursorsHeld`. -/
theorem stepKeepsHandlerAndSequencer : Obligations.StepKeepsHandlerAndSequencer := by
  unfold Obligations.StepKeepsHandlerAndSequencer
  refine ⟨fun s t handler sequencer isolation e => ?_, fun s t calibration rest nodes e => ?_, fun s t rest cursors e => ?_⟩
  · have coupled := coupled_keptThroughout.step ⟨handler, sequencer, isolation⟩ e
    exact ⟨coupled.handler, coupled.sequencer, coupled.isolation⟩
  · exact (nodesHeld_keptByParts.step ⟨calibration, rest, nodes⟩ e).nodes
  · exact (cursorsHeld_keptByParts.step ⟨rest, cursors⟩ e).cursors

end Sys2Proof.Machine
end

section
/-! PROOFS. The Target Table: which slot holds an id, which is free, and what one observation can do (R18, R24 to R34). -/

namespace Sys2Proof.Machine

/-! ## Slots and ids (R18) -/

section
variable {slots : List (Option Entry)} {id i : Nat}

/-- The ids in a table are those of the entries in its slots. -/
theorem mem_entryIds : id ∈ entryIds slots ↔ ∃ (i : Nat) (e : Entry), slots[i]? = some (some e) ∧ e.id = id := by
  rw [entryIds, List.mem_filterMap]
  constructor
  · rintro ⟨slot, held, same⟩
    obtain ⟨e, rfl, named⟩ := Option.map_eq_some_iff.1 same
    obtain ⟨i, held⟩ := List.mem_iff_getElem?.1 held
    exact ⟨i, e, held, named⟩
  · rintro ⟨i, e, held, same⟩
    exact ⟨some e, List.mem_of_getElem? held, congrArg some same⟩

/-- No two entries share an id exactly when an id names its slot. -/
theorem entryIds_nodup_iff : (entryIds slots).Nodup ↔
    ∀ (i j : Nat) (e d : Entry), slots[i]? = some (some e) → slots[j]? = some (some d) → e.id = d.id → i = j := by
  rw [entryIds, List.Nodup, List.pairwise_filterMap, List.pairwise_iff_getElem]
  constructor
  · intro apart i j e d he hd same
    obtain ⟨hi, ei⟩ := List.getElem?_eq_some_iff.1 he
    obtain ⟨hj, ej⟩ := List.getElem?_eq_some_iff.1 hd
    rcases Nat.lt_trichotomy i j with lt | eq | lt
    · exact absurd same (apart i j hi hj lt e.id (by rw [ei]; rfl) d.id (by rw [ej]; rfl))
    · exact eq
    · exact absurd same.symm (apart j i hj hi lt d.id (by rw [ej]; rfl) e.id (by rw [ei]; rfl))
  · intro named i j hi hj lt m hm n hn same
    obtain ⟨e, ei, rfl⟩ := Option.map_eq_some_iff.1 hm
    obtain ⟨d, ej, rfl⟩ := Option.map_eq_some_iff.1 hn
    exact absurd (named i j e d (by rw [List.getElem?_eq_getElem hi, ei]) (by rw [List.getElem?_eq_getElem hj, ej]) same)
      (Nat.ne_of_lt lt)

theorem holdsId_iff {slot : Option Entry} : holdsId id slot = true ↔ ∃ e, slot = some e ∧ e.id = id := by
  cases slot with
  | none => simp [holdsId]
  | some e => simp [holdsId]

theorem slotOf_eq_some (found : slotOf id slots = some i) : ∃ e, slots[i]? = some (some e) ∧ e.id = id := by
  obtain ⟨hi, holds, _⟩ := List.findIdx?_eq_some_iff_getElem.1 found
  obtain ⟨e, here, same⟩ := holdsId_iff.1 holds
  exact ⟨e, by rw [List.getElem?_eq_getElem hi, here], same⟩

theorem slotOf_eq_none_iff : slotOf id slots = none ↔ id ∉ entryIds slots := by
  rw [slotOf, List.findIdx?_eq_none_iff, mem_entryIds]
  constructor
  · rintro none ⟨i, e, held, same⟩
    exact absurd (holdsId_iff.2 ⟨e, rfl, same⟩) (by rw [none _ (List.mem_of_getElem? held)]; decide)
  · intro absent slot held
    refine Bool.eq_false_iff.2 fun holds => absent ?_
    obtain ⟨e, rfl, same⟩ := holdsId_iff.1 holds
    obtain ⟨i, here⟩ := List.mem_iff_getElem?.1 held
    exact ⟨i, e, here, same⟩

/-- Where no two entries share an id, the slot of an id is that of its entry. -/
theorem slotOf_eq (unique : (entryIds slots).Nodup) {e : Entry} (held : slots[i]? = some (some e)) (same : e.id = id) :
    slotOf id slots = some i := by
  cases found : slotOf id slots with
  | none => exact absurd (mem_entryIds.2 ⟨i, e, held, same⟩) (slotOf_eq_none_iff.1 found)
  | some j =>
    obtain ⟨d, there, same'⟩ := slotOf_eq_some found
    rw [entryIds_nodup_iff.1 unique i j e d held there (same.trans same'.symm)]

theorem freeSlot_eq_some_iff : freeSlot slots = some i ↔ slots[i]? = some none ∧ ∀ j < i, slots[j]? ≠ some none := by
  rw [freeSlot, List.findIdx?_eq_some_iff_getElem]
  constructor
  · rintro ⟨hi, free, lowest⟩
    refine ⟨by rw [List.getElem?_eq_getElem hi, Option.isNone_iff_eq_none.1 free], fun j lt free' => lowest j lt ?_⟩
    obtain ⟨_, here⟩ := List.getElem?_eq_some_iff.1 free'
    rw [here]; rfl
  · rintro ⟨free, lowest⟩
    obtain ⟨hi, here⟩ := List.getElem?_eq_some_iff.1 free
    refine ⟨hi, by rw [here]; rfl, fun j lt free' => lowest j lt ?_⟩
    rw [List.getElem?_eq_getElem (Nat.lt_trans lt hi), Option.isNone_iff_eq_none.1 free']

theorem freeSlot_eq_none_iff : freeSlot slots = none ↔ ∀ i : Nat, slots[i]? ≠ some none := by
  rw [freeSlot, List.findIdx?_eq_none_iff]
  constructor
  · intro full i free
    exact absurd (full _ (List.mem_of_getElem? free)) (by decide)
  · intro full slot held
    obtain ⟨i, here⟩ := List.mem_iff_getElem?.1 held
    cases slot with
    | none => exact absurd here (full i)
    | some e => rfl

end

/-! ## One observation (R24 to R34) -/

section
variable {x : Exposure} {o : Observation} {s : State}

theorem badId_iff : o.badId = true ↔ o.id = 0 ∨ 63 < o.id := by simp [Observation.badId]

theorem badFields_iff : o.badFields = true ↔
    (o.id = 0 ∨ 63 < o.id) ∨ 5 < o.cls ∨ o.azR < o.azL ∨ o.azL < -1024 ∨ 1023 < o.azL ∨ o.azR < -1024 ∨ 1023 < o.azR ∨
      o.elevTop < o.elevBottom ∨ o.elevBottom < -256 ∨ 255 < o.elevBottom ∨ o.elevTop < -256 ∨ 255 < o.elevTop := by
  simp [Observation.badFields, or_assoc]

theorem clampedMark_iff : o.clampedMark = true ↔ o.rate < -2000 ∨ 2000 < o.rate ∨ 8191 < o.range := by
  simp [Observation.clampedMark, or_assoc]

theorem observe_leaving_badId (leaving : o.leaving = true) (bad : o.badId = true) :
    observe x o s = { state := countEvent .obsRefused s, outcome := .refusedField, mark := false } := by
  rw [observe, if_pos leaving, if_pos bad]

theorem observe_leaving (leaving : o.leaving = true) (good : o.badId = false) :
    observe x o s = { state := (removeLeaving o.id s).1, outcome := (removeLeaving o.id s).2, mark := false } := by
  rw [observe, if_pos leaving, if_neg (by simp [good])]

theorem observe_badFields (staying : o.leaving = false) (bad : o.badFields = true) :
    observe x o s = { state := countEvent .obsRefused s, outcome := .refusedField, mark := false } := by
  rw [observe, if_neg (by simp [staying]), if_pos bad]

theorem observe_writes (staying : o.leaving = false) (good : o.badFields = false) :
    observe x o s =
      { state := (writeObservation x o.clamped s).1, outcome := (writeObservation x o.clamped s).2,
        mark := o.clampedMark } := by
  rw [observe, if_neg (by simp [staying]), if_neg (by simp [good])]

theorem removeLeaving_found {id i : Nat} (found : slotOf id s.slots = some i) :
    removeLeaving id s = (setSlot i none s, .removed) := by simp only [removeLeaving, found]

theorem removeLeaving_absent {id : Nat} (absent : slotOf id s.slots = none) : removeLeaving id s = (s, .notFound) := by
  simp only [removeLeaving, absent]

theorem writeObservation_known {i : Nat} {old : Entry} (found : slotOf o.id s.slots = some i)
    (held : s.slots[i]? = some (some old)) :
    writeObservation x o s = (setSlot i (some (updatedEntry s x o old)) s, .updated) := by
  have here : s.slots.getD i none = some old := by rw [List.getD_eq_getElem?_getD, held]; rfl
  simp only [writeObservation, found, here]

theorem writeObservation_new (absent : slotOf o.id s.slots = none) : writeObservation x o s = admitNew x o s := by
  simp only [writeObservation, absent]

theorem admitNew_refused (doubtful : o.confidence < s.itemNat 2 0) :
    admitNew x o s = (countEvent .obsRefused s, .refusedConfidence) := by rw [admitNew, if_pos doubtful]

theorem admitNew_free (sure : s.itemNat 2 0 ≤ o.confidence) {i : Nat} (free : freeSlot s.slots = some i) :
    admitNew x o s = (setSlot i (some (newEntry s x o)) s, .added) := by
  rw [admitNew, if_neg (Nat.not_lt.2 sure), free]

theorem admitNew_evicting (sure : s.itemNat 2 0 ≤ o.confidence) (full : freeSlot s.slots = none) {i : Nat} {victim : Entry}
    (chosen : chooseVictim s.timeBase (evictionCandidates s.slots (s.tierOf o.cls)) = some (i, victim)) :
    admitNew x o s = (countEvent .evictions (setSlot i (some (newEntry s x o)) s), .addedEvicting victim.id) := by
  rw [admitNew, if_neg (Nat.not_lt.2 sure), full]
  simp only [chosen]

theorem admitNew_full (sure : s.itemNat 2 0 ≤ o.confidence) (full : freeSlot s.slots = none)
    (none : chooseVictim s.timeBase (evictionCandidates s.slots (s.tierOf o.cls)) = none) :
    admitNew x o s = (countEvent .obsTableFull s, .tableFull) := by
  rw [admitNew, if_neg (Nat.not_lt.2 sure), full]
  simp only [none]

/-- What an observation can do to the state: it counts at most, frees a slot, rewrites the entry of its id, or writes an entry
of a new id into a slot (R24 to R34). -/
theorem observe_cases {P : State → Prop} (same : P s) (count : ∀ id t, P t → P (countEvent id t))
    (removed : ∀ i, P (setSlot i none s))
    (updated : ∀ i old, o.badFields = false → s.slots[i]? = some (some old) → old.id = o.id →
      P (setSlot i (some (updatedEntry s x o.clamped old)) s))
    (added : ∀ i, o.badFields = false → o.id ∉ entryIds s.slots → P (setSlot i (some (newEntry s x o.clamped)) s)) :
    P (observe x o s).state := by
  cases leaving : o.leaving with
  | true =>
    cases bad : o.badId with
    | true =>
      rw [observe_leaving_badId leaving bad]
      exact count _ _ same
    | false =>
      rw [observe_leaving leaving bad]
      cases found : slotOf o.id s.slots with
      | none => rw [removeLeaving_absent found]; exact same
      | some i => rw [removeLeaving_found found]; exact removed i
  | false =>
    cases bad : o.badFields with
    | true =>
      rw [observe_badFields leaving bad]
      exact count _ _ same
    | false =>
      rw [observe_writes leaving bad]
      dsimp only
      cases found : slotOf o.clamped.id s.slots with
      | some i =>
        obtain ⟨old, held, sameId⟩ := slotOf_eq_some found
        rw [writeObservation_known found held]
        exact updated i old bad held sameId
      | none =>
        have absent : o.id ∉ entryIds s.slots := slotOf_eq_none_iff.1 found
        rw [writeObservation_new found]
        by_cases doubtful : o.clamped.confidence < s.itemNat 2 0
        · rw [admitNew_refused doubtful]
          exact count _ _ same
        · have sure := Nat.not_lt.1 doubtful
          cases free : freeSlot s.slots with
          | some i => rw [admitNew_free sure free]; exact added i bad absent
          | none =>
            cases chosen : chooseVictim s.timeBase (evictionCandidates s.slots (s.tierOf o.clamped.cls)) with
            | none => rw [admitNew_full sure free chosen]; exact count _ _ same
            | some p =>
              obtain ⟨i, victim⟩ := p
              rw [admitNew_evicting sure free chosen]
              exact count _ _ (added i bad absent)

end

end Sys2Proof.Machine
end

section
/-! PROOFS. The Target Table and its entries at every step (R18, R19, R39). -/

namespace Sys2Proof.Machine

/-! ## No two entries share an id (R18) -/

section
variable {slots : List (Option Entry)}

/-- A slot may take an entry whose id stands in no other slot. -/
theorem entryIds_set_nodup (unique : (entryIds slots).Nodup) (i : Nat) {slot : Option Entry}
    (own : ∀ e, slot = some e → ∀ (j : Nat) (d : Entry), slots[j]? = some (some d) → d.id = e.id → j = i) :
    (entryIds (slots.set i slot)).Nodup := by
  rw [entryIds_nodup_iff] at *
  intro a b e d ha hb same
  have written {k : Nat} {c : Entry} (h : (slots.set i slot)[k]? = some (some c)) :
      (k = i ∧ slot = some c) ∨ (k ≠ i ∧ slots[k]? = some (some c)) := by
    by_cases here : i = k
    · subst here
      rw [List.getElem?_set_self'] at h
      obtain ⟨_, _, eq⟩ := Option.map_eq_some_iff.1 h
      exact .inl ⟨rfl, eq⟩
    · rw [List.getElem?_set_ne here] at h
      exact .inr ⟨Ne.symm here, h⟩
  rcases written ha with ⟨rfl, atSlot⟩ | ⟨apart, old⟩
  · rcases written hb with ⟨rfl, _⟩ | ⟨apart', old'⟩
    · rfl
    · exact absurd (own e atSlot b d old' same.symm) apart'
  · rcases written hb with ⟨rfl, atSlot'⟩ | ⟨_, old'⟩
    · exact absurd (own d atSlot' a e old same) apart
    · exact unique a b e d old old' same

/-- An aged slot holds the entry it held, or none (R38). -/
theorem ageSlot_eq_some {coastStart coastLimit : Int} {now : Millis} {slot : Option Entry} {e : Entry}
    (aged : ageSlot coastStart coastLimit now slot = some e) : ∃ d, slot = some d ∧ e = { d with state := e.state } := by
  cases slot with
  | none => cases aged
  | some d =>
    refine ⟨d, rfl, ?_⟩
    unfold ageSlot at aged
    dsimp only at aged
    split at aged
    · cases aged
    · split at aged <;> cases aged <;> rfl

theorem entryIds_aged_nodup (unique : (entryIds slots).Nodup) (coastStart coastLimit : Int) (now : Millis) :
    (entryIds (slots.map (ageSlot coastStart coastLimit now))).Nodup := by
  rw [entryIds_nodup_iff] at *
  intro i j e d he hd same
  have before {k : Nat} {c : Entry} (h : (slots.map (ageSlot coastStart coastLimit now))[k]? = some (some c)) :
      ∃ b, slots[k]? = some (some b) ∧ b.id = c.id := by
    rw [List.getElem?_map] at h
    obtain ⟨slot, held, aged⟩ := Option.map_eq_some_iff.1 h
    obtain ⟨b, rfl, same⟩ := ageSlot_eq_some aged
    exact ⟨b, held, (congrArg Entry.id same).symm⟩
  obtain ⟨e', olde, ide⟩ := before he
  obtain ⟨d', oldd, idd⟩ := before hd
  exact unique i j e' d' olde oldd (by rw [ide, idd, same])

end

section
variable {s t : State}

theorem TargetTableLaw.same (law : TargetTableLaw s) (slots : t.slots = s.slots) : TargetTableLaw t := by
  rw [TargetTableLaw, slots]
  exact law

theorem targetTableLaw_free (free : s.slots = freeSlots) : TargetTableLaw s := targetTableLaw_reset.same free

theorem TargetTableLaw.setSlot (law : TargetTableLaw s) (i : Nat) {slot : Option Entry}
    (own : ∀ e, slot = some e → ∀ (j : Nat) (d : Entry), s.slots[j]? = some (some d) → d.id = e.id → j = i) :
    TargetTableLaw (setSlot i slot s) :=
  ⟨List.length_set.trans law.1, entryIds_set_nodup law.2 i own⟩

theorem TargetTableLaw.observe (law : TargetTableLaw s) (x : Exposure) (o : Observation) :
    TargetTableLaw (observe x o s).state :=
  observe_cases law (fun _ _ kept => kept) (fun i => law.setSlot i nofun)
    (fun i old _ held same => law.setSlot i fun e written j d other sameId => by
      cases written
      exact entryIds_nodup_iff.1 law.2 j i d old other held (sameId.trans same.symm))
    (fun i _ absent => law.setSlot i fun e written j d other sameId => by
      cases written
      exact absurd (mem_entryIds.2 ⟨j, d, other, sameId⟩) absent)

theorem TargetTableLaw.observeAll (law : TargetTableLaw s) (x : Exposure) (os : List Observation) :
    TargetTableLaw (observeAll x os s).1 := by
  induction os generalizing s with
  | nil => exact law
  | cons o os ih => exact ih (law.observe x o)

theorem TargetTableLaw.dropEntries (law : TargetTableLaw s) (id : Nat) : TargetTableLaw (dropEntries id s).1 := by
  unfold Machine.dropEntries
  split
  · exact targetTableLaw_free rfl
  · split
    · exact law.setSlot _ nofun
    · exact law

theorem TargetTableLaw.ageTable (law : TargetTableLaw s) (now : Millis) : TargetTableLaw (ageTable now s) :=
  ⟨(List.length_map _).trans law.1, entryIds_aged_nodup law.2 _ _ now⟩

/-! ## Where the table changes -/

theorem abortDirect_slots (s : State) : (abortDirect s).slots = freeSlots := by
  unfold abortDirect
  rw [answerHeld_only]
  simp [teardown]

theorem afterSceneAccepted_slots (s : State) :
    (afterSceneAccepted s).slots = s.slots ∨ (afterSceneAccepted s).slots = freeSlots :=
  afterSceneAccepted_cases (P := fun t => t.slots = s.slots ∨ t.slots = freeSlots) (fun _ => .inl rfl) (fun _ => .inl rfl)
    (fun _ _ => .inl rfl) (fun _ _ => .inl rfl) (fun _ _ => .inl rfl) (fun _ => .inr (abortDirect_slots s))

theorem afterTrackAccepted_slots (s : State) : (afterTrackAccepted s).slots = s.slots :=
  afterTrackAccepted_cases (P := fun t => t.slots = s.slots) (fun _ _ => rfl) (fun _ => rfl) (fun _ _ => rfl) (fun _ _ => rfl)

theorem sceneTimerExpired_slots (s : State) :
    (sceneTimerExpired s).slots = s.slots ∨ (sceneTimerExpired s).slots = freeSlots :=
  sceneTimerExpired_cases (P := fun t => t.slots = s.slots ∨ t.slots = freeSlots) (fun _ => .inr rfl)
    (fun _ => .inr (abortDirect_slots s)) (fun _ _ => .inl rfl)

theorem trackTimerExpired_slots (s : State) :
    (trackTimerExpired s).slots = s.slots ∨ (trackTimerExpired s).slots = freeSlots :=
  trackTimerExpired_cases (P := fun t => t.slots = s.slots ∨ t.slots = freeSlots) (fun _ => .inr rfl) (fun _ => .inl rfl)

theorem OnlyLamps.slots (only : OnlyLamps s t) : t.slots = s.slots := by rw [only]

theorem loadImage_slots (image : List Byte) (s : State) : (loadImage image s).slots = s.slots :=
  List.foldlRecOn (motive := fun t => t.slots = s.slots) (List.range 8) (judgeGroup image)
    (b := { s with holdingBuffer := image }) rfl fun _ same _ _ => by rw [judgeGroup_only]; exact same

theorem failAutoload_slots (s : State) : (failAutoload s).slots = s.slots := by
  have only := latchFault_only .calAbsent 0 s.timeBase { s with holdingBuffer := [], tables := defaultTables }
  exact (congrArg State.slots only :)

theorem TargetTableLaw.frameClock (law : TargetTableLaw s) : TargetTableLaw (frameClock s) := by
  have next : TargetTableLaw { s with framePhase := s.framePhase.map (· + millis s.framePeriod) } := law
  exact takeFrameStart_cases (fun _ => next) (fun _ _ => next.ageTable _)
    (fun _ => next.same (stageDirectFrames_only _).lamps.slots) (fun _ => next)

theorem TargetTableLaw.servedBy (law : TargetTableLaw s) (f : LinkFrame) : ServedBy TargetTableLaw TargetTableLaw f s where
  answered _ _ kept := kept
  emptied kept := kept
  cleared kept := kept
  unchanged := law
  scene _ := (afterSceneAccepted_slots { s with scene := (takeScene f.payload s.timeBase s.scene).1 }).elim
    (fun same => law.same same) targetTableLaw_free
  track _ n bytes := by
    have heard : TargetTableLaw { s with lastTrackTime := s.timeBase, trackAccepted := true } := law
    exact (heard.same (afterTrackAccepted_slots _)).observeAll _ _
  drop _ id := law.dropEntries id
  teardown _ := targetTableLaw_free rfl
  enterActive _ _ := law
  enterDirect _ _ _ _ := law
  write _ table n index bytes := by rw [writeItems_only]; exact law
  direct _ h g values := law.same (by simp [writeDirect])
  pass _ := law.same (requestArrived_only _).lamps.slots

theorem targetTableLaw_keptByParts : KeptByParts TargetTableLaw where
  link only law := by rw [only]; exact law
  count _ law := law
  reset _ _ _ := targetTableLaw_reset
  loadImage {s} image _ law := law.same (loadImage_slots image s)
  failAutoload {s} _ law := law.same (failAutoload_slots s)
  serve f law := (law.servedBy f).serve
  sceneTimerExpired {s} law := (sceneTimerExpired_slots s).elim law.same targetTableLaw_free
  trackTimerExpired {s} law := (trackTimerExpired_slots s).elim law.same targetTableLaw_free
  frameClock law := law.frameClock
  finishHeadStage {s} law := law.same (finishHeadStage_only s).lamps.slots
  finishBlock {s} law := law.same (finishBlock_only s).slots
  failExchange {s} law := law.same (failExchange_only s).slots
  receiveEchoInput {s} port input stopLow law := law.same (receiveEchoInput_only port input stopLow s).slots

end

/-! ## Entries (R19) -/

/-- What the header of a TRACK and an observation of it keep to (R23, R170). -/
structure Observable (x : Exposure) (o : Observation) : Prop where
  low : -160 ≤ x.cabPitch
  high : x.cabPitch ≤ 160
  confidence : o.confidence ≤ 15

theorem observable_parsed (f : LinkFrame) {n : Nat} {bytes : List Byte} {o : Observation} (parsed : o ∈ parseObservations n bytes) :
    Observable (trackExposure f) o := by
  have pitch : (trackExposure f).cabPitch = max (-160) (min 160 (trackCabPitch f.payload)) := clampTo_eq (by decide) _
  refine ⟨by omega, by omega, ?_⟩
  induction n generalizing bytes with
  | zero => cases parsed
  | succ n ih =>
    rcases List.mem_cons.1 parsed with rfl | later
    · exact Nat.le_of_lt_succ (Nat.mod_lt _ (by decide))
    · exact ih later

section
variable {s t : State} {x : Exposure} {o : Observation}

/-- The class map yields tiers 0 to 3 (R45, R175). -/
theorem tierOf_le (calibration : CalibrationLaw s) {cls : Nat} (known : cls ≤ 5) : s.tierOf cls ≤ 3 := by
  have item : ∃ dflt, (tableSpec 3)[cls]? = some ⟨0, 3, dflt⟩ := by
    interval_cases cls <;> exact ⟨_, rfl⟩
  obtain ⟨dflt, item⟩ := item
  obtain ⟨low, high⟩ := item_in_range calibration (by decide) item
  dsimp only at low high
  unfold State.tierOf State.itemNat
  omega

/-- The entry that an observation writes has its fields in range (R25, R26, R27). -/
theorem entryFrom_inRange (calibration : CalibrationLaw s) (seen : Observable x o) (good : o.badFields = false) {hits : Nat}
    (counted : 1 ≤ hits ∧ hits ≤ 15) (state : EntryState) : (entryFrom s x o.clamped hits state).inRange := by
  obtain ⟨pitchLow, pitchHigh, confidence⟩ := seen
  have fields := mt (badFields_iff (o := o)).2 (by simp [good])
  have tier : s.tierOf o.cls ≤ 3 := tierOf_le calibration (by omega)
  have rate : clampTo (-2000) 2000 o.rate = max (-2000) (min 2000 o.rate) := clampTo_eq (by decide) _
  simp only [Entry.inRange, entryFrom, Observation.clamped, rate]
  omega

theorem newEntry_inRange (calibration : CalibrationLaw s) (seen : Observable x o) (good : o.badFields = false) :
    (newEntry s x o.clamped).inRange := entryFrom_inRange calibration seen good (by decide) _

theorem updatedEntry_inRange (calibration : CalibrationLaw s) (seen : Observable x o) (good : o.badFields = false)
    (old : Entry) : (updatedEntry s x o.clamped old).inRange :=
  entryFrom_inRange calibration seen good (by omega) _

/-- Every entry of a table has its fields in range. -/
abbrev SlotsInRange (slots : List (Option Entry)) : Prop := ∀ e, some e ∈ slots → e.inRange

theorem slotsInRange_free : SlotsInRange freeSlots := fun _ held => by cases List.eq_of_mem_replicate held

theorem SlotsInRange.set {slots : List (Option Entry)} (law : SlotsInRange slots) (i : Nat) {slot : Option Entry}
    (written : ∀ e, slot = some e → e.inRange) : SlotsInRange (slots.set i slot) := by
  intro e held
  rcases List.mem_or_eq_of_mem_set held with old | new
  · exact law e old
  · exact written e new.symm

/-- Aging touches the state of an entry alone (R38). -/
theorem SlotsInRange.aged {slots : List (Option Entry)} (law : SlotsInRange slots) (coastStart coastLimit : Int) (now : Millis) :
    SlotsInRange (slots.map (ageSlot coastStart coastLimit now)) := by
  intro e held
  obtain ⟨slot, old, aged⟩ := List.mem_map.1 held
  obtain ⟨d, rfl, same⟩ := ageSlot_eq_some aged
  have range := law d old
  rw [same]
  exact range

theorem SlotsInRange.observe (law : SlotsInRange s.slots) (calibration : CalibrationLaw s) (seen : Observable x o) :
    SlotsInRange (observe x o s).state.slots :=
  observe_cases (P := fun t => SlotsInRange t.slots) law (fun _ _ kept => kept) (fun i => law.set i nofun)
    (fun i old good _ _ => law.set i fun e written => by
      cases written
      exact updatedEntry_inRange calibration seen good old)
    (fun i good _ => law.set i fun e written => by
      cases written
      exact newEntry_inRange calibration seen good)

theorem SlotsInRange.observeAll (law : SlotsInRange s.slots) (calibration : CalibrationLaw s) {os : List Observation}
    (seen : ∀ o ∈ os, Observable x o) : SlotsInRange (observeAll x os s).1.slots := by
  induction os generalizing s with
  | nil => exact law
  | cons o os ih =>
    have kept : CalibrationLaw (Machine.observe x o s).state := calibration.same (observe_only x o s).tables
    exact ih (law.observe calibration (seen o (.head _))) kept fun o' later => seen o' (.tail _ later)

/-! ## The table and the snapshot of a composition (R39) -/

/-- The snapshot of a composition in flight is in range too. -/
abbrev SnapshotInRange (s : State) : Prop := ∀ c e, s.composition = some c → some e ∈ c.targets → e.inRange

theorem EntryLaw.same (law : EntryLaw s) (slots : t.slots = s.slots) (composition : t.composition = s.composition) : EntryLaw t := by
  rw [EntryLaw, slots, composition]
  exact law

theorem EntryLaw.freed (law : EntryLaw s) (slots : t.slots = freeSlots) (composition : t.composition = s.composition) :
    EntryLaw t := by
  rw [EntryLaw, slots, composition]
  exact ⟨slotsInRange_free, law.2⟩

theorem snapshotInRange_idle (idle : s.composition = none) : SnapshotInRange s := by
  intro c e composing
  rw [idle] at composing
  cases composing

theorem entryLaw_cleared (slots : s.slots = freeSlots) (composition : s.composition = none) : EntryLaw s :=
  ⟨slots ▸ slotsInRange_free, snapshotInRange_idle composition⟩

theorem OnlyLamps.composition (only : OnlyLamps s t) : t.composition = s.composition := by rw [only]

theorem entryLaw_abortDirect (s : State) : EntryLaw (abortDirect s) := by
  refine entryLaw_cleared (abortDirect_slots s) ?_
  unfold abortDirect
  rw [answerHeld_only]
  simp [teardown]

theorem EntryLaw.enterSafe_latch (law : EntryLaw s) (kind : FaultKind) (subject : Nat) :
    EntryLaw (enterSafe (latch kind subject s)) := by
  refine law.freed rfl ?_
  have kept : (latch kind subject s).composition = s.composition := by simp
  exact kept

theorem EntryLaw.sceneTimerExpired (law : EntryLaw s) : EntryLaw (sceneTimerExpired s) :=
  sceneTimerExpired_cases (fun _ => law.enterSafe_latch _ _) (fun _ => entryLaw_abortDirect s) (fun _ _ => law)

theorem EntryLaw.trackTimerExpired (law : EntryLaw s) : EntryLaw (trackTimerExpired s) :=
  trackTimerExpired_cases (fun _ => law.enterSafe_latch _ _) (fun _ => law)

/-- The snapshot is the aged table (R39, R86). -/
theorem EntryLaw.frameClock (law : EntryLaw s) : EntryLaw (frameClock s) := by
  have next : EntryLaw { s with framePhase := s.framePhase.map (· + millis s.framePeriod) } := law
  refine takeFrameStart_cases (fun _ => next) (fun _ _ => ?_) (fun _ => ?_) (fun _ => next)
  · have aged := SlotsInRange.aged (slots := s.slots) law.1
    exact ⟨aged _ _ _, fun c e begun held => by cases begun; exact aged _ _ _ e held⟩
  · have only := (stageDirectFrames_only { s with framePhase := s.framePhase.map (· + millis s.framePeriod) }).lamps
    exact next.same only.slots only.composition

/-- A head stage leaves the snapshot as it was taken (R39, R61). -/
theorem composed_targets (c : Composition) (h : Head) (windows : List Window) (rest : List Head) :
    (c.composed h windows rest).targets = c.targets := by cases h <;> rfl

theorem EntryLaw.finishHeadStage (law : EntryLaw s) : EntryLaw (finishHeadStage s) := by
  refine ⟨by rw [(finishHeadStage_only s).lamps.slots]; exact law.1, ?_⟩
  unfold Machine.finishHeadStage
  split
  · exact law.2
  · rename_i c composing
    split
    · exact snapshotInRange_idle rfl
    · rename_i h rest _
      unfold endHeadStage
      dsimp only
      split
      · exact snapshotInRange_idle rfl
      · intro c' e staged held
        have kept := (stageFrame_only h (composedLevels s c h (compositionShadows s c h)) { s.setHead h { s.head h with
          applied := composedLevels s c h (compositionShadows s c h) } with
            composition := some (c.composed h (compositionShadows s c h) rest) }).lamps.composition
        cases kept.symm.trans staged
        rw [composed_targets] at held
        exact law.2 c e composing held

theorem loadImage_composition (image : List Byte) (s : State) : (loadImage image s).composition = s.composition :=
  List.foldlRecOn (motive := fun t => t.composition = s.composition) (List.range 8) (judgeGroup image)
    (b := { s with holdingBuffer := image }) rfl fun _ same _ _ => by rw [judgeGroup_only]; exact same

theorem failAutoload_composition (s : State) : (failAutoload s).composition = s.composition := by
  have only := latchFault_only .calAbsent 0 s.timeBase { s with holdingBuffer := [], tables := defaultTables }
  exact (congrArg State.composition only :)

theorem EntryLaw.dropEntries (law : EntryLaw s) (id : Nat) : EntryLaw (dropEntries id s).1 := by
  unfold Machine.dropEntries
  split
  · exact law.freed rfl rfl
  · split
    · exact ⟨SlotsInRange.set law.1 _ nofun, law.2⟩
    · exact law

theorem EntryLaw.servedBy (law : EntryLaw s) (calibration : CalibrationLaw s) (f : LinkFrame) :
    ServedBy EntryLaw EntryLaw f s where
  answered _ _ kept := kept
  emptied kept := kept
  cleared kept := kept
  unchanged := law
  scene _ := afterSceneAccepted_cases (fun _ => law) (fun _ => law) (fun _ _ => law) (fun _ _ => law) (fun _ _ => law)
    (fun _ => entryLaw_abortDirect _)
  track _ n bytes := by
    have accepted : EntryLaw (afterTrackAccepted { s with lastTrackTime := s.timeBase, trackAccepted := true }) :=
      afterTrackAccepted_cases (fun _ _ => law) (fun _ => law) (fun _ _ => law) (fun _ _ => law)
    have calibrated : CalibrationLaw (afterTrackAccepted { s with lastTrackTime := s.timeBase, trackAccepted := true }) :=
      calibration.same (afterTrackAccepted_tables _)
    have only := observeAll_only (trackExposure f) (parseObservations n bytes)
      (afterTrackAccepted { s with lastTrackTime := s.timeBase, trackAccepted := true })
    refine ⟨SlotsInRange.observeAll accepted.1 calibrated fun o parsed => observable_parsed f parsed, ?_⟩
    rw [only]
    exact accepted.2
  drop _ id := law.dropEntries id
  teardown _ := entryLaw_cleared rfl rfl
  enterActive _ _ := law
  enterDirect _ _ _ _ := law
  write _ table n index bytes := by rw [writeItems_only]; exact law
  direct _ h g values := law.same (by simp [writeDirect]) (by simp [writeDirect])
  pass _ := law.same (requestArrived_only _).lamps.slots (requestArrived_only _).lamps.composition

end

/-! ## Steps -/

/-- The law with the one under which every step keeps it. -/
structure EntriesHeld (s : State) : Prop where
  calibration : CalibrationLaw s
  entries : EntryLaw s

theorem entriesHeld_keptByParts : KeptByParts EntriesHeld := by
  have calibration := calibrationLaw_keptByParts
  have lamps {s t : State} (only : OnlyLamps s t) (e : EntryLaw s) : EntryLaw t := e.same only.slots only.composition
  exact {
    link := fun only ⟨c, e⟩ => ⟨calibration.link only c, by rw [only]; exact e⟩
    count := fun id ⟨c, e⟩ => ⟨calibration.count id c, e⟩
    reset := fun strap pending ties => ⟨calibration.reset strap pending ties, entryLaw_reset⟩
    loadImage := fun {s} image loading ⟨c, e⟩ =>
      ⟨calibration.loadImage image loading c, e.same (loadImage_slots image s) (loadImage_composition image s)⟩
    failAutoload := fun {s} loading ⟨c, e⟩ =>
      ⟨calibration.failAutoload loading c, e.same (failAutoload_slots s) (failAutoload_composition s)⟩
    serve := fun f ⟨c, e⟩ => ⟨calibration.serve f c, (e.servedBy c f).serve⟩
    sceneTimerExpired := fun ⟨c, e⟩ => ⟨calibration.sceneTimerExpired c, e.sceneTimerExpired⟩
    trackTimerExpired := fun ⟨c, e⟩ => ⟨calibration.trackTimerExpired c, e.trackTimerExpired⟩
    frameClock := fun ⟨c, e⟩ => ⟨calibration.frameClock c, e.frameClock⟩
    finishHeadStage := fun ⟨c, e⟩ => ⟨calibration.finishHeadStage c, e.finishHeadStage⟩
    finishBlock := fun {s} ⟨c, e⟩ => ⟨calibration.finishBlock c, lamps (finishBlock_only s) e⟩
    failExchange := fun {s} ⟨c, e⟩ => ⟨calibration.failExchange c, lamps (failExchange_only s) e⟩
    receiveEchoInput := fun {s} port input stopLow ⟨c, e⟩ => ⟨calibration.receiveEchoInput port input stopLow c,
      lamps (receiveEchoInput_only port input stopLow s) e⟩ }

/-- Settles O53: the ids by `TargetTableLaw` itself, the fields under `CalibrationLaw`. -/
theorem stepKeepsTheTargetTableLaw : Obligations.StepKeepsTheTargetTableLaw := by
  unfold Obligations.StepKeepsTheTargetTableLaw
  refine ⟨fun s t law e => targetTableLaw_keptByParts.step law e, fun s t calibration entries e => ?_⟩
  exact (entriesHeld_keptByParts.step ⟨calibration, entries⟩ e).entries

end Sys2Proof.Machine
end

section
/-! PROOFS. The outcomes of an observation, the eviction order, and aging (R25 to R38). -/

namespace Sys2Proof.Machine

/-! ## LEAVING and refusals (R25, R28, R30) -/

section
variable {x : Exposure} {o : Observation} {s : State}

theorem badId_eq_false (low : 1 ≤ o.id) (high : o.id ≤ 63) : o.badId = false :=
  Bool.eq_false_iff.2 fun bad => by rcases badId_iff.1 bad with zero | above <;> omega

/-- Settles O18: the slot of an id is the one slot that holds it. -/
theorem leavingFreesTheSlotOfItsId : Obligations.LeavingFreesTheSlotOfItsId := by
  unfold Obligations.LeavingFreesTheSlotOfItsId
  intro x o s law leaving low high
  have observed := observe_leaving (x := x) (s := s) leaving (badId_eq_false low high)
  refine ⟨fun i e held same => ?_, fun absent => ?_⟩
  · rw [observed, removeLeaving_found (slotOf_eq law.2 held same)]
    exact ⟨rfl, rfl, rfl⟩
  · rw [observed, removeLeaving_absent (slotOf_eq_none_iff.2 absent)]
    exact ⟨rfl, rfl, rfl⟩

theorem removeLeaving_ne_refusedField (id : Nat) (s : State) : (removeLeaving id s).2 ≠ .refusedField := by
  cases found : slotOf id s.slots with
  | none => rw [removeLeaving_absent found]; nofun
  | some i => rw [removeLeaving_found found]; nofun

theorem admitNew_ne_refusedField (x : Exposure) (o : Observation) (s : State) : (admitNew x o s).2 ≠ .refusedField := by
  by_cases doubtful : o.confidence < s.itemNat 2 0
  · rw [admitNew_refused doubtful]; nofun
  · have sure := Nat.not_lt.1 doubtful
    cases free : freeSlot s.slots with
    | some i => rw [admitNew_free sure free]; nofun
    | none =>
      cases chosen : chooseVictim s.timeBase (evictionCandidates s.slots (s.tierOf o.cls)) with
      | none => rw [admitNew_full sure free chosen]; nofun
      | some p => rw [admitNew_evicting (i := p.1) (victim := p.2) sure free chosen]; nofun

theorem writeObservation_ne_refusedField (x : Exposure) (o : Observation) (s : State) :
    (writeObservation x o s).2 ≠ .refusedField := by
  cases found : slotOf o.id s.slots with
  | none =>
    rw [writeObservation_new found]
    exact admitNew_ne_refusedField x o s
  | some i =>
    obtain ⟨old, held, _⟩ := slotOf_eq_some found
    rw [writeObservation_known found held]
    nofun

/-- The refusal for a field is decided before the table is looked at (R25). -/
theorem observe_refusedField_iff : (observe x o s).outcome = .refusedField ↔
    (o.leaving = true ∧ o.badId = true) ∨ (o.leaving = false ∧ o.badFields = true) := by
  cases leaving : o.leaving with
  | true =>
    cases bad : o.badId with
    | true => simp [observe_leaving_badId leaving bad]
    | false => simpa [observe_leaving leaving bad] using removeLeaving_ne_refusedField o.id s
  | false =>
    cases bad : o.badFields with
    | true => simp [observe_badFields leaving bad]
    | false => simpa [observe_writes leaving bad] using writeObservation_ne_refusedField x o.clamped s

/-- Settles O19: a field is refused before the table is looked at, a low confidence once the id is found to be new. -/
theorem refusedObservationOnlyCounts : Obligations.RefusedObservationOnlyCounts := by
  unfold Obligations.RefusedObservationOnlyCounts
  intro x o s badId badField marked
  have good : ¬ badField → o.badFields = false := fun passes => Bool.eq_false_iff.2 (mt badFields_iff.1 passes)
  refine ⟨?_, fun refused => ?_, fun staying passes new doubtful => ?_, fun staying passes => ?_⟩
  · rw [observe_refusedField_iff, badId_iff, badFields_iff]
  · rcases observe_refusedField_iff.1 refused with ⟨leaving, bad⟩ | ⟨staying, bad⟩
    · rw [observe_leaving_badId leaving bad]
      exact ⟨rfl, rfl⟩
    · rw [observe_badFields staying bad]
      exact ⟨rfl, rfl⟩
  · have absent : slotOf o.clamped.id s.slots = none := slotOf_eq_none_iff.2 new
    rw [observe_writes staying (good passes), writeObservation_new absent, admitNew_refused (o := o.clamped) doubtful]
    exact ⟨rfl, rfl⟩
  · rw [observe_writes staying (good passes)]
    exact clampedMark_iff

/-! ## Updates (R27, R29) -/

theorem updatedState_eq (s : State) (old : EntryState) (hits : Nat) :
    updatedState s old hits = if old = .tentative ∧ hits < s.confirmHits then .tentative else .active := by
  cases old with
  | tentative =>
    by_cases confirmed : s.confirmHits ≤ hits
    · simp [updatedState, confirmed, Nat.not_lt.2 confirmed]
    · simp [updatedState, confirmed, Nat.not_le.1 confirmed]
  | active => simp [updatedState]
  | coasting => simp [updatedState]

/-- The values that an observation writes, after the clamps (R26, R27). -/
theorem entryFrom_clamped (s : State) (x : Exposure) (o : Observation) (hits : Nat) (state : EntryState) :
    entryFrom s x o.clamped hits state =
      { id := o.id, cls := o.cls, tier := s.itemNat 3 o.cls, azL := o.azL, azR := o.azR,
        rate := max (-2000) (min 2000 o.rate), elevB := o.elevBottom + x.cabPitch, elevT := o.elevTop + x.cabPitch,
        range := min o.range 8191, confidence := o.confidence, obsTime := x.obsTime, hits, state } := by
  have rate : clampTo (-2000) 2000 o.rate = max (-2000) (min 2000 o.rate) := clampTo_eq (by decide) _
  rw [← rate]
  rfl

/-- Settles O20: the slot of a known id is rewritten. -/
theorem updateRewritesTheEntryInItsSlot : Obligations.UpdateRewritesTheEntryInItsSlot := by
  unfold Obligations.UpdateRewritesTheEntryInItsSlot
  intro x o s i old law staying good held same hits
  have found : slotOf o.clamped.id s.slots = some i := slotOf_eq law.2 held same
  rw [observe_writes staying good, writeObservation_known found held]
  refine ⟨rfl, ?_⟩
  rw [updatedEntry, updatedState_eq, entryFrom_clamped]
  rfl

/-! ## Eviction (R32, R33) -/

/-- `p` goes before `q` among candidates with their slots (R33). -/
abbrev GoesBefore (now : Millis) (p q : Nat × Entry) : Prop :=
  p.2.tier < q.2.tier ∨ (p.2.tier = q.2.tier ∧
    (q.2.range < p.2.range ∨ (q.2.range = p.2.range ∧
      (ageOf now q.2.obsTime < ageOf now p.2.obsTime ∨
        (ageOf now q.2.obsTime = ageOf now p.2.obsTime ∧ p.1 < q.1)))))

theorem GoesBefore.trans {now : Millis} {p q r : Nat × Entry} (pq : GoesBefore now p q) (qr : GoesBefore now q r) :
    GoesBefore now p r := by
  unfold GoesBefore at *
  omega

/-- Of two candidates in slot order the comparisons of R33 keep the first unless the second is evicted before it. -/
theorem goesBefore_of_slot {now : Millis} {p q : Nat × Entry} (slot : p.1 < q.1) :
    if evictedBefore now q.2 p.2 then GoesBefore now q p else GoesBefore now p q := by
  unfold evictedBefore GoesBefore
  split
  · rename_i before
    simp only [Bool.or_eq_true, Bool.and_eq_true, decide_eq_true_eq, beq_iff_eq] at before
    omega
  · rename_i before
    simp only [Bool.or_eq_true, Bool.and_eq_true, decide_eq_true_eq, beq_iff_eq] at before
    omega

/-- The pass over the candidates behind the first (R33). -/
def evictionPass (now : Millis) (best : Nat × Entry) (rest : List (Nat × Entry)) : Nat × Entry :=
  rest.foldl (fun best q => if evictedBefore now q.2 best.2 then q else best) best

theorem evictionPass_cons (now : Millis) (best q : Nat × Entry) (rest : List (Nat × Entry)) :
    evictionPass now best (q :: rest) = evictionPass now (if evictedBefore now q.2 best.2 then q else best) rest := rfl

theorem chooseVictim_cons (now : Millis) (best : Nat × Entry) (rest : List (Nat × Entry)) :
    chooseVictim now (best :: rest) = some (evictionPass now best rest) := rfl

/-- The pass over the candidates keeps the first of those it has seen. -/
theorem evictionPass_goesBefore (now : Millis) (best : Nat × Entry) (rest : List (Nat × Entry))
    (ordered : (best :: rest).Pairwise fun p q => p.1 < q.1) :
    evictionPass now best rest ∈ best :: rest ∧
      ∀ q ∈ best :: rest, q ≠ evictionPass now best rest →
        GoesBefore now (evictionPass now best rest) q := by
  induction rest generalizing best with
  | nil => exact ⟨.head _, fun q held other => absurd (List.mem_singleton.1 held) other⟩
  | cons q rest ih =>
    obtain ⟨after, ordered'⟩ := List.pairwise_cons.1 ordered
    obtain ⟨afterQ, orderedRest⟩ := List.pairwise_cons.1 ordered'
    have slot := goesBefore_of_slot (now := now) (after q (.head _))
    rw [evictionPass_cons]
    by_cases before : evictedBefore now q.2 best.2 = true
    · rw [if_pos before] at slot ⊢
      obtain ⟨held, first⟩ := ih q ordered'
      refine ⟨.tail _ held, fun c mem other => ?_⟩
      rcases List.mem_cons.1 mem with rfl | later
      · by_cases isQ : q = evictionPass now q rest
        · rw [← isQ]; exact slot
        · exact (first q (.head _) isQ).trans slot
      · exact first c later other
    · rw [if_neg before] at slot ⊢
      have orderedBest : (best :: rest).Pairwise fun p q => p.1 < q.1 :=
        List.pairwise_cons.2 ⟨fun c held => after c (.tail _ held), orderedRest⟩
      obtain ⟨held, first⟩ := ih best orderedBest
      refine ⟨?_, fun c mem other => ?_⟩
      · rcases List.mem_cons.1 held with isBest | later
        · rw [isBest]; exact .head _
        · exact .tail _ (.tail _ later)
      · rcases List.mem_cons.1 mem with rfl | later
        · exact first c (.head _) other
        · rcases List.mem_cons.1 later with rfl | later
          · by_cases isBest : best = evictionPass now best rest
            · rw [← isBest]; exact slot
            · exact (first best (.head _) isBest).trans slot
          · exact first c (.tail _ later) other

theorem chooseVictim_isSome {now : Millis} {candidates : List (Nat × Entry)} (some : candidates ≠ []) :
    (chooseVictim now candidates).isSome = true := by
  cases candidates with
  | nil => exact absurd rfl some
  | cons p ps => rfl

/-- Settles O22: the pass over the candidates keeps the first by the order of R33. -/
theorem victimIsFirstByTheEvictionOrder : Obligations.VictimIsFirstByTheEvictionOrder := by
  unfold Obligations.VictimIsFirstByTheEvictionOrder
  intro now candidates ordered
  refine ⟨chooseVictim_isSome, fun p chosen => ?_⟩
  cases candidates with
  | nil => cases chosen
  | cons best rest =>
    cases (chooseVictim_cons now best rest).symm.trans chosen
    exact evictionPass_goesBefore now best rest (List.pairwise_map.1 ordered)

/-- The occupied slots with their numbers. -/
def heldEntries (slots : List (Option Entry)) : List (Nat × Entry) :=
  slots.zipIdx.filterMap fun p => p.1.map fun e => (p.2, e)

theorem mem_heldEntries {slots : List (Option Entry)} {j : Nat} {e : Entry} :
    (j, e) ∈ heldEntries slots ↔ slots[j]? = some (some e) := by
  rw [heldEntries, List.mem_filterMap]
  constructor
  · rintro ⟨⟨slot, k⟩, mem, same⟩
    obtain ⟨d, rfl, eq⟩ := Option.map_eq_some_iff.1 same
    cases eq
    exact List.mem_zipIdx_iff_getElem?.1 mem
  · intro held
    exact ⟨(some e, j), List.mem_zipIdx_iff_getElem?.2 held, rfl⟩

theorem heldEntries_ordered (slots : List (Option Entry)) : (heldEntries slots).Pairwise fun p q => p.1 < q.1 := by
  rw [heldEntries, List.pairwise_filterMap]
  have numbered : slots.zipIdx.Pairwise fun p q => p.2 < q.2 := by
    rw [← List.pairwise_map (f := Prod.snd) (R := (· < ·)), List.zipIdx_map_snd]
    exact List.pairwise_lt_range'
  refine numbered.imp fun {a b} lt p hp q hq => ?_
  obtain ⟨_, _, rfl⟩ := Option.map_eq_some_iff.1 hp
  obtain ⟨_, _, rfl⟩ := Option.map_eq_some_iff.1 hq
  exact lt

/-- The candidates for eviction by an observation of some tier (R32). -/
theorem evictionCandidates_eq (slots : List (Option Entry)) (tier : Nat) :
    evictionCandidates slots tier =
      if ((heldEntries slots).filter fun p => decide (p.2.state = .tentative)).isEmpty then
        (heldEntries slots).filter fun p => decide (p.2.tier < tier)
      else (heldEntries slots).filter fun p => decide (p.2.state = .tentative) := rfl

theorem evictionCandidates_ordered (slots : List (Option Entry)) (tier : Nat) :
    ((evictionCandidates slots tier).map Prod.fst).Pairwise (· < ·) := by
  rw [List.pairwise_map, evictionCandidates_eq]
  split
  · exact (heldEntries_ordered slots).filter _
  · exact (heldEntries_ordered slots).filter _

/-- An entry is a candidate as a TENTATIVE one, or, where there is none, as one of a lower tier (R32). -/
theorem mem_evictionCandidates {slots : List (Option Entry)} {tier j : Nat} {e : Entry} :
    (j, e) ∈ evictionCandidates slots tier ↔
      slots[j]? = some (some e) ∧ (e.state = .tentative ∨
        (e.tier < tier ∧ ∀ (k : Nat) (d : Entry), slots[k]? = some (some d) → d.state ≠ .tentative)) := by
  have none : ((heldEntries slots).filter fun p => decide (p.2.state = .tentative)).isEmpty = true ↔
      ∀ (k : Nat) (d : Entry), slots[k]? = some (some d) → d.state ≠ .tentative := by
    rw [List.isEmpty_iff, List.filter_eq_nil_iff]
    constructor
    · intro all k d held tentative
      exact all (k, d) (mem_heldEntries.2 held) (decide_eq_true tentative)
    · rintro all ⟨k, d⟩ held tentative
      exact all k d (mem_heldEntries.1 held) (of_decide_eq_true tentative)
  rw [evictionCandidates_eq]
  split
  · rename_i unseen
    have all := none.1 unseen
    rw [List.mem_filter, mem_heldEntries, decide_eq_true_eq]
    refine and_congr_right fun held => ⟨fun low => .inr ⟨low, all⟩, ?_⟩
    rintro (tentative | ⟨low, _⟩)
    · exact absurd tentative (all j e held)
    · exact low
  · rename_i seen
    rw [List.mem_filter, mem_heldEntries, decide_eq_true_eq]
    refine and_congr_right fun held => ⟨.inl, ?_⟩
    rintro (tentative | ⟨_, all⟩)
    · exact tentative
    · exact absurd (none.2 all) seen

/-! ## Admission (R30, R31, R34) -/

theorem newEntry_clamped (s : State) (x : Exposure) (o : Observation) :
    newEntry s x o.clamped =
      { id := o.id, cls := o.cls, tier := s.itemNat 3 o.cls, azL := o.azL, azR := o.azR,
        rate := max (-2000) (min 2000 o.rate), elevB := o.elevBottom + x.cabPitch, elevT := o.elevTop + x.cabPitch,
        range := min o.range 8191, confidence := o.confidence, obsTime := x.obsTime, hits := 1,
        state := if s.itemNat 2 1 = 1 then .active else .tentative } := entryFrom_clamped s x o 1 _

/-- Settles O21: the lowest free slot, or the victim's, or none. -/
theorem newIdIsAdmittedEvictsOrIsTurnedAway : Obligations.NewIdIsAdmittedEvictsOrIsTurnedAway := by
  unfold Obligations.NewIdIsAdmittedEvictsOrIsTurnedAway
  intro x o s staying good new sure entry candidate candidates
  have absent : slotOf o.clamped.id s.slots = none := slotOf_eq_none_iff.2 new
  have written : newEntry s x o.clamped = entry := newEntry_clamped s x o
  have observed : observe x o s =
      { state := (admitNew x o.clamped s).1, outcome := (admitNew x o.clamped s).2, mark := o.clampedMark } := by
    rw [observe_writes staying good, writeObservation_new absent]
  have member : ∀ j e, (j, e) ∈ candidates ↔ candidate j e := fun j e => mem_evictionCandidates
  refine ⟨⟨evictionCandidates_ordered _ _, member⟩, fun i free lowest => ?_, fun full ⟨j, e, could⟩ => ?_, fun full none => ?_⟩
  · rw [observed, admitNew_free (o := o.clamped) sure (freeSlot_eq_some_iff.2 ⟨free, lowest⟩), written]
    exact ⟨rfl, rfl⟩
  · have some : (chooseVictim s.timeBase candidates).isSome = true :=
      chooseVictim_isSome (List.ne_nil_of_mem ((member j e).2 could))
    obtain ⟨⟨i, victim⟩, chosen⟩ := Option.isSome_iff_exists.1 some
    have held : (i, victim) ∈ candidates :=
      ((victimIsFirstByTheEvictionOrder s.timeBase candidates (evictionCandidates_ordered _ _)).2 _ chosen).1
    refine ⟨i, victim, (member i victim).1 held, chosen, ?_⟩
    rw [observed, admitNew_evicting (o := o.clamped) sure (freeSlot_eq_none_iff.2 full) chosen, written]
    exact ⟨rfl, rfl⟩
  · have nil : candidates = [] :=
      List.eq_nil_iff_forall_not_mem.2 fun ⟨j, e⟩ held => none ⟨j, e, (member j e).1 held⟩
    have empty : chooseVictim s.timeBase candidates = Option.none := by rw [nil]; rfl
    rw [observed, admitNew_full (o := o.clamped) sure (freeSlot_eq_none_iff.2 full) empty]
    exact ⟨rfl, rfl⟩

/-! ## Aging (R38) -/

/-- Settles O24: slot by slot. -/
theorem agingRemovesAndCoasts : Obligations.AgingRemovesAndCoasts := by
  unfold Obligations.AgingRemovesAndCoasts
  intro now s
  have aged (i : Nat) {slot : Option Entry} (held : s.slots[i]? = some slot) :
      (ageTable now s).slots[i]? = some (ageSlot s.coastStart s.coastLimit now slot) := by
    rw [ageTable, List.getElem?_map, held]
    rfl
  refine ⟨rfl, List.length_map _, fun i => ⟨fun free => aged i free, fun e held => ?_⟩⟩
  intro age
  rw [aged i held]
  refine ⟨fun old => ?_, fun young active coasts => ?_, fun young stays => ?_⟩
  · rw [ageSlot, if_pos (show s.coastLimit < (ageOf now e.obsTime : Int) from old)]
  · rw [ageSlot, if_neg (show ¬ s.coastLimit < (ageOf now e.obsTime : Int) from Int.not_lt.2 young), if_pos ⟨active, coasts⟩]
  · rw [ageSlot, if_neg (show ¬ s.coastLimit < (ageOf now e.obsTime : Int) from Int.not_lt.2 young), if_neg]
    rintro ⟨active, coasts⟩
    rcases stays with other | low
    · exact other active
    · exact absurd coasts (Int.not_lt.2 low)

end

end Sys2Proof.Machine
end

section
/-! PROOFS. DROP (R37), MODE ACTIVATE and MODE DIRECT (R145 to R149), and the field checks of the requests (R22, R99, R145, R171,
R180). -/

namespace Sys2Proof.Machine

/-! ## DROP (R37) -/

section
variable {s : State}

theorem serveDrop_composes {f : LinkFrame} (length : f.payload.length = 1) (composes : s.mode.composes = true) :
    serveDrop f s =
      answer f .ok [byteOf (dropEntries (byteAt f.payload 0).toNat s).2] (dropEntries (byteAt f.payload 0).toNat s).1 := by
  rw [serveDrop, if_neg (not_not_intro length), if_neg (by simp [composes])]

theorem dropEntries_all (s : State) : dropEntries 0 s = (clearTable s, s.occupancy) := if_pos rfl

theorem dropEntries_found {id i : Nat} (some : id ≠ 0) (found : slotOf id s.slots = Option.some i) :
    dropEntries id s = (setSlot i none s, 1) := by
  rw [dropEntries, if_neg some, found]

theorem dropEntries_absent {id : Nat} (some : id ≠ 0) (absent : slotOf id s.slots = none) : dropEntries id s = (s, 0) := by
  rw [dropEntries, if_neg some, absent]

/-- Settles O23: all entries, the entry of the id, or none. -/
theorem dropRemovesAndReportsEntries : Obligations.DropRemovesAndReportsEntries := by
  unfold Obligations.DropRemovesAndReportsEntries
  intro tag id s ready mode law answered
  have composes : s.mode.composes = true := composes_iff.2 mode
  have dropped {u : State} {n : Nat} (effect : dropEntries id.toNat s = (u, n)) :
      answered (answer { type := 3, tag, payload := [id], receipt := s.timeBase } .ok [byteOf n] u) n := by
    refine ⟨?_, answer_replied _ _ _ _ _ _ _⟩
    have here : byteAt [id] 0 = id := rfl
    rw [exec_request (c := .drop tag [id]) rfl, request_ready ready, serve_drop rfl, serveDrop_composes rfl composes, here,
      effect]
  have positive (some : id ≠ 0) : id.toNat ≠ 0 := fun zero => some (BitVec.eq_of_toNat_eq zero)
  refine ⟨fun all => ?_, fun i e some held same => ?_, fun some absent => ?_⟩
  · subst all
    exact ⟨_, dropped (dropEntries_all s), rfl⟩
  · exact ⟨_, dropped (dropEntries_found (positive some) (slotOf_eq law.2 held same)), rfl⟩
  · exact ⟨_, dropped (dropEntries_absent (positive some) (slotOf_eq_none_iff.2 absent)), rfl⟩

/-! ## MODE ACTIVATE (R145, R148) -/

theorem serveMode_target {f : LinkFrame} {target : Byte} (payload : f.payload = [target]) (outside : s.mode ≠ .start) :
    serveMode f s =
      match target.toNat with
      | 0 => modeToStandby f s
      | 1 => modeToActive f s
      | 2 => modeToDirect f s
      | _ => answer f .badField [] s := by
  rw [serveMode, payload, if_neg (not_not_intro (List.length_singleton ..)), if_neg outside]
  rfl

theorem modeToActive_standby (h : s.mode = .standby) (f : LinkFrame) : modeToActive f s = activate f s := by
  simp only [modeToActive, h]

theorem modeToActive_active (h : s.mode = .active) (f : LinkFrame) : modeToActive f s = answer f .ok [] s := by
  simp only [modeToActive, h]

theorem modeToActive_refused (h : s.mode = .safe ∨ s.mode = .direct) (f : LinkFrame) :
    modeToActive f s = answer f .wrongState [] s := by
  rcases h with h | h <;> simp only [modeToActive, h]

theorem activate_passed (h : s.firstFailure = none) (f : LinkFrame) : activate f s = answer f .ok [] (enterActive s) := by
  simp only [activate, h]

theorem activate_failed {c : Condition} (h : s.firstFailure = some c) (f : LinkFrame) :
    activate f s = answer f .configInconsistent [byteOf c.table, byteOf c.item] s := by
  simp only [activate, h, answerInconsistent]

/-- Settles O27: mode by mode. -/
theorem modeActivateEntersActive : Obligations.ModeActivateEntersActive := by
  unfold Obligations.ModeActivateEntersActive
  intro tag s ready
  have served (receipt : Millis) (outside : s.mode ≠ .start) :
      serve { type := 4, tag, payload := [1], receipt } s = modeToActive { type := 4, tag, payload := [1], receipt } s := by
    rw [serve_mode rfl, serveMode_target rfl outside]
    rfl
  refine ⟨fun standby passed => ?_, fun c standby failed => ?_, fun active => ?_, fun other => ?_⟩
  · refine ⟨_, ?_, answer_replied 4 tag [1] s.timeBase .ok [] (enterActive s), rfl⟩
    rw [exec_request (c := .modeActivate tag) rfl, request_ready ready, served _ (by simp [standby]),
      modeToActive_standby standby, activate_passed passed]
  · refine exec_refused rfl ready fun receipt => ?_
    rw [served _ (by simp [standby]), modeToActive_standby standby, activate_failed failed]
    rfl
  · refine exec_refused rfl ready fun receipt => ?_
    rw [served _ (by simp [active]), modeToActive_active active]
  · refine exec_refused rfl ready fun receipt => ?_
    rw [served _ (by rcases other with h | h <;> simp [h]), modeToActive_refused other]

/-! ## MODE DIRECT (R145, R149) -/

theorem modeToDirect_standby (h : s.mode = .standby) (f : LinkFrame) : modeToDirect f s = directIfSlow f s := by
  simp only [modeToDirect, h]

theorem modeToDirect_direct (h : s.mode = .direct) (f : LinkFrame) : modeToDirect f s = answer f .ok [] s := by
  simp only [modeToDirect, h]

theorem modeToDirect_refused (h : s.mode = .active ∨ s.mode = .safe) (f : LinkFrame) :
    modeToDirect f s = answer f .wrongState [] s := by
  rcases h with h | h <;> simp only [modeToDirect, h]

theorem directIfSlow_failed {c : Condition} (h : s.firstFailure = some c) (f : LinkFrame) :
    directIfSlow f s = answer f .configInconsistent [byteOf c.table, byteOf c.item] s := by
  simp only [directIfSlow, h, answerInconsistent]

theorem directIfSlow_fast (h : s.firstFailure = none)
    (fast : s.scene.speedKnown = false ∨ s.directSpeedMax < (s.scene.speed : Int)) (f : LinkFrame) :
    directIfSlow f s = answer f .wrongState [] s := by
  simp only [directIfSlow, h, if_pos fast]

theorem directIfSlow_slow (h : s.firstFailure = none) (known : s.scene.speedKnown = true)
    (slow : (s.scene.speed : Int) ≤ s.directSpeedMax) (f : LinkFrame) :
    directIfSlow f s = answer f .ok [] (enterDirect s) := by
  have lasts : ¬ (s.scene.speedKnown = false ∨ s.directSpeedMax < (s.scene.speed : Int)) := by
    rintro (unknown | fast)
    · rw [known] at unknown; cases unknown
    · exact absurd slow (Int.not_le.2 fast)
  simp only [directIfSlow, h, if_neg lasts]

/-- Settles O28: mode by mode. -/
theorem modeDirectEntersDirect : Obligations.ModeDirectEntersDirect := by
  unfold Obligations.ModeDirectEntersDirect
  intro tag s ready
  have served (receipt : Millis) (outside : s.mode ≠ .start) :
      serve { type := 4, tag, payload := [2], receipt } s = modeToDirect { type := 4, tag, payload := [2], receipt } s := by
    rw [serve_mode rfl, serveMode_target rfl outside]
    rfl
  refine ⟨fun standby passed known slow => ?_, fun standby passed fast => ?_, fun c standby failed => ?_, fun direct => ?_,
    fun other => ?_⟩
  · refine ⟨_, ?_, answer_replied 4 tag [2] s.timeBase .ok [] (enterDirect s), rfl⟩
    rw [exec_request (c := .modeDirect tag) rfl, request_ready ready, served _ (by simp [standby]),
      modeToDirect_standby standby, directIfSlow_slow passed known slow]
  · refine exec_refused rfl ready fun receipt => ?_
    rw [served _ (by simp [standby]), modeToDirect_standby standby, directIfSlow_fast passed fast]
  · refine exec_refused rfl ready fun receipt => ?_
    rw [served _ (by simp [standby]), modeToDirect_standby standby, directIfSlow_failed failed]
    rfl
  · refine exec_refused rfl ready fun receipt => ?_
    rw [served _ (by simp [direct]), modeToDirect_direct direct]
  · refine exec_refused rfl ready fun receipt => ?_
    rw [served _ (by rcases other with h | h <;> simp [h]), modeToDirect_refused other]

/-! ## Field checks -/

theorem headOfByte_none {b : Byte} (other : 1 < b.toNat) : headOfByte b = none := by
  rw [headOfByte, if_neg, if_neg]
  · rintro rfl; exact absurd other (by decide)
  · rintro rfl; exact absurd other (by decide)

/-- A query of a known kind and its own length reports by its kind (R171). -/
theorem serveQuery_known {f : LinkFrame} {kind : Byte} {parameters : List Byte} (payload : f.payload = kind :: parameters)
    (known : kind.toNat ≤ 6) (fits : (kind :: parameters).length = queryLength kind.toNat) :
    serveQuery f s = answerQuery f kind.toNat s := by
  simp only [serveQuery, payload, if_neg (Nat.not_lt.2 known), if_neg (not_not_intro fits)]

theorem serveQuery_noKind {f : LinkFrame} {kind : Byte} {parameters : List Byte} (payload : f.payload = kind :: parameters)
    (unknown : 6 < kind.toNat) : serveQuery f s = answer f .badField [] s := by
  simp only [serveQuery, payload, if_pos unknown]

theorem serveTrack_tooMany {f : LinkFrame} (length : f.payload.length = 4 + 17 * trackCount f.payload)
    (composes : s.mode.composes = true) (many : 12 < trackCount f.payload) : serveTrack f s = answer f .badField [] s := by
  rw [serveTrack, if_neg (by omega), if_neg (by simp [composes]), if_pos many]

theorem queryShadows_noHead {f : LinkFrame} (other : 1 < (byteAt f.payload 1).toNat) :
    queryShadows f s = answer f .badField [] s := by
  rw [queryShadows, headOfByte_none other]

theorem queryLevels_badField {f : LinkFrame} (other : 1 < (byteAt f.payload 1).toNat ∨ 11 < (byteAt f.payload 2).toNat) :
    queryLevels f s = answer f .badField [] s := by
  unfold queryLevels
  split
  · rfl
  · rename_i h known
    rcases other with other | outside
    · rw [headOfByte_none other] at known; cases known
    · rw [if_pos outside]

theorem serveConfigRead_badField {f : LinkFrame} {table index count : Byte} (payload : f.payload = [table, index, count])
    (outside : s.mode ≠ .start)
    (bad : count.toNat = 0 ∨ 64 < count.toNat ∨ 7 < table.toNat ∨ (tableSpec table.toNat).length ≤ index.toNat) :
    serveConfigRead f s = answer f .badField [] s := by
  have place : badItemPlace table.toNat index.toNat = true ↔
      7 < table.toNat ∨ (tableSpec table.toNat).length ≤ index.toNat := by
    rw [badItemPlace, Bool.or_eq_true, decide_eq_true_eq, decide_eq_true_eq, itemCount]
  rw [serveConfigRead, payload]
  refine (if_neg (not_not_intro rfl)).trans ((if_neg outside).trans (if_pos ?_))
  exact bad.imp_right fun more => more.imp_right place.2

theorem serveDirectLevels_badField {f : LinkFrame} (length : f.payload.length = 34) (direct : s.mode = .direct)
    (bad : 1 < (byteAt f.payload 0).toNat ∨ 11 < (byteAt f.payload 1).toNat) :
    serveDirectLevels f s = answer f .badField [] s := by
  rw [serveDirectLevels, if_neg (not_not_intro length), if_neg (not_not_intro direct)]
  split
  · rfl
  · rename_i h known
    rcases bad with other | outside
    · rw [headOfByte_none other] at known; cases known
    · rw [if_pos outside]

/-- Settles O14: check by check. -/
theorem badFieldRequestOnlyGetsItsAnswer : Obligations.BadFieldRequestOnlyGetsItsAnswer := by
  unfold Obligations.BadFieldRequestOnlyGetsItsAnswer
  intro tag payload s ready refused
  refine ⟨fun kind rest eq unknown => ?_, fun target eq above outside => ?_, fun fits accepted many => ?_, fun head eq other => ?_,
    fun head group eq other => ?_, fun table index count eq outside bad => ?_, fun length direct bad => ?_⟩
  · refine exec_refused rfl ready fun receipt => ?_
    rw [serve_query rfl, serveQuery_noKind eq unknown]
  · refine exec_refused rfl ready fun receipt => ?_
    rw [serve_mode rfl, serveMode_target eq outside]
    split
    · omega
    · omega
    · omega
    · rfl
  · refine exec_refused rfl ready fun receipt => ?_
    have length : payload.length = 4 + 17 * (byteAt payload 3).toNat := by
      have parts : (decide (4 ≤ payload.length) && payload.length == 4 + 17 * (byteAt payload 3).toNat) = true := fits
      rw [Bool.and_eq_true, beq_iff_eq] at parts
      exact parts.2
    have composes : s.mode.composes = true := (composes_eq s.mode).trans accepted
    rw [serve_track rfl]
    exact serveTrack_tooMany (f := { type := 2, tag, payload, receipt }) length composes many
  · subst eq
    refine exec_refused rfl ready fun receipt => ?_
    rw [serve_query rfl, serveQuery_known (kind := 2) (parameters := [head]) rfl (by decide) rfl]
    exact queryShadows_noHead other
  · subst eq
    refine exec_refused rfl ready fun receipt => ?_
    rw [serve_query rfl, serveQuery_known (kind := 4) (parameters := [head, group]) rfl (by decide) rfl]
    exact queryLevels_badField other
  · refine exec_refused rfl ready fun receipt => ?_
    rw [serve_configRead rfl, serveConfigRead_badField eq outside bad]
  · refine exec_refused rfl ready fun receipt => ?_
    rw [serve_directLevels rfl, serveDirectLevels_badField length direct bad]

end

end Sys2Proof.Machine
end

section
/-! PROOFS. An accepted TRACK (R22 to R36, R170) and DIRECT LEVELS (R99). -/

namespace Sys2Proof.Machine

/-! ## The observations of a request (R170, R174) -/

theorem parseObservations_getElem? (n : Nat) (bytes : List Byte) {j : Nat} (lt : j < n) :
    (parseObservations n bytes)[j]? = some (Observation.parse ((bytes.drop (17 * j)).take 17)) := by
  induction n generalizing bytes j with
  | zero => cases lt
  | succ n ih =>
    cases j with
    | zero => rfl
    | succ j =>
      rw [parseObservations, List.getElem?_cons_succ, ih _ (Nat.lt_of_succ_lt_succ lt), List.drop_drop, Nat.mul_succ,
        Nat.add_comm]

theorem byteAt_window (bytes : List Byte) (k : Nat) {i : Nat} (lt : i < 17) :
    byteAt ((bytes.drop k).take 17) i = byteAt bytes (k + i) := by
  rw [byteAt, byteAt, List.getD_eq_getElem?_getD, List.getD_eq_getElem?_getD, List.getElem?_take_of_lt lt,
    List.getElem?_drop]

/-- The two bytes of an outcome in the reply: code and clamped mark, then the victim (R36, R170). -/
theorem outcome_bytes (o : ObsOutcome) (mark : Bool) :
    o.bytes mark = [if mark = true then byteOf o.code ||| 0x80 else byteOf o.code, byteOf o.victim] := by
  cases mark with
  | false => rfl
  | true =>
    have small : o.code < 9 := by cases o <;> simp [ObsOutcome.code]
    have all : ∀ code < 9, byteOf (code + 128) = byteOf code ||| 0x80 := by decide
    have marked := all o.code small
    rw [if_pos rfl, ← marked]
    rfl

/-! ## What the observations depend on -/

/-- Two states agree in what an observation reads and writes: the table, the counters, the calibration and the time. -/
structure SameTable (s t : State) : Prop where
  slots : t.slots = s.slots
  counters : t.counters = s.counters
  tables : t.tables = s.tables
  micros : t.micros = s.micros

section
variable {s t : State} {x : Exposure} {o : Observation}

theorem SameTable.itemNat (same : SameTable s t) (table index : Nat) : t.itemNat table index = s.itemNat table index := by
  rw [State.itemNat, item_congr same.tables]
  rfl

theorem SameTable.setSlot (same : SameTable s t) (i : Nat) (slot : Option Entry) :
    SameTable (setSlot i slot s) (setSlot i slot t) :=
  ⟨congrArg (·.set i slot) same.slots, same.counters, same.tables, same.micros⟩

theorem SameTable.countEvent (same : SameTable s t) (id : CounterId) : SameTable (countEvent id s) (countEvent id t) :=
  ⟨same.slots, congrArg (·.modify id.index Counter.increment) same.counters, same.tables, same.micros⟩

theorem SameTable.confirmHits (same : SameTable s t) : t.confirmHits = s.confirmHits := same.itemNat 2 1

theorem SameTable.entryFrom (same : SameTable s t) (x : Exposure) (o : Observation) (hits : Nat) (state : EntryState) :
    entryFrom t x o hits state = entryFrom s x o hits state := by
  rw [Machine.entryFrom, Machine.entryFrom, State.tierOf, same.itemNat]
  rfl

theorem SameTable.newEntry (same : SameTable s t) (x : Exposure) (o : Observation) : newEntry t x o = newEntry s x o := by
  rw [Machine.newEntry, Machine.newEntry, same.confirmHits, same.entryFrom]

theorem SameTable.updatedEntry (same : SameTable s t) (x : Exposure) (o : Observation) (old : Entry) :
    updatedEntry t x o old = updatedEntry s x o old := by
  simp only [Machine.updatedEntry, same.entryFrom, updatedState, same.confirmHits]

/-- An observation has one outcome in states that agree, and they agree behind it (R24). -/
theorem SameTable.observe (same : SameTable s t) (x : Exposure) (o : Observation) :
    SameTable (observe x o s).state (observe x o t).state ∧ (observe x o t).outcome = (observe x o s).outcome ∧
      (observe x o t).mark = (observe x o s).mark := by
  cases leaving : o.leaving with
  | true =>
    cases bad : o.badId with
    | true =>
      rw [observe_leaving_badId leaving bad, observe_leaving_badId leaving bad]
      exact ⟨same.countEvent _, rfl, rfl⟩
    | false =>
      rw [observe_leaving leaving bad, observe_leaving leaving bad]
      cases found : slotOf o.id s.slots with
      | none =>
        rw [removeLeaving_absent found, removeLeaving_absent (same.slots ▸ found)]
        exact ⟨same, rfl, rfl⟩
      | some i =>
        rw [removeLeaving_found found, removeLeaving_found (same.slots ▸ found)]
        exact ⟨same.setSlot i none, rfl, rfl⟩
  | false =>
    cases bad : o.badFields with
    | true =>
      rw [observe_badFields leaving bad, observe_badFields leaving bad]
      exact ⟨same.countEvent _, rfl, rfl⟩
    | false =>
      rw [observe_writes leaving bad, observe_writes leaving bad]
      cases found : slotOf o.clamped.id s.slots with
      | some i =>
        obtain ⟨old, held, _⟩ := slotOf_eq_some found
        rw [writeObservation_known found held, writeObservation_known (same.slots ▸ found) (same.slots ▸ held),
          same.updatedEntry]
        exact ⟨same.setSlot i _, rfl, rfl⟩
      | none =>
        rw [writeObservation_new found, writeObservation_new (same.slots ▸ found)]
        by_cases doubtful : o.clamped.confidence < s.itemNat 2 0
        · rw [admitNew_refused doubtful, admitNew_refused (by rw [same.itemNat]; exact doubtful)]
          exact ⟨same.countEvent _, rfl, rfl⟩
        · have sure : s.itemNat 2 0 ≤ o.clamped.confidence := Nat.not_lt.1 doubtful
          have sure' : t.itemNat 2 0 ≤ o.clamped.confidence := by rw [same.itemNat]; exact sure
          cases free : freeSlot s.slots with
          | some i =>
            rw [admitNew_free sure free, admitNew_free sure' (same.slots ▸ free), same.newEntry]
            exact ⟨same.setSlot i _, rfl, rfl⟩
          | none =>
            have candidates : chooseVictim t.timeBase (evictionCandidates t.slots (t.tierOf o.clamped.cls)) =
                chooseVictim s.timeBase (evictionCandidates s.slots (s.tierOf o.clamped.cls)) := by
              rw [timeBase_congr same.micros, same.slots, State.tierOf, same.itemNat]
              rfl
            cases chosen : chooseVictim s.timeBase (evictionCandidates s.slots (s.tierOf o.clamped.cls)) with
            | none =>
              rw [admitNew_full sure free chosen,
                admitNew_full sure' (same.slots ▸ free) (candidates.trans chosen)]
              exact ⟨same.countEvent _, rfl, rfl⟩
            | some p =>
              obtain ⟨i, victim⟩ := p
              rw [admitNew_evicting sure free chosen,
                admitNew_evicting sure' (same.slots ▸ free) (candidates.trans chosen), same.newEntry]
              exact ⟨(same.setSlot i _).countEvent _, rfl, rfl⟩

theorem SameTable.observeAll (same : SameTable s t) (x : Exposure) (os : List Observation) :
    SameTable (observeAll x os s).1 (observeAll x os t).1 ∧ (observeAll x os t).2 = (observeAll x os s).2 := by
  induction os generalizing s t with
  | nil => exact ⟨same, rfl⟩
  | cons o os ih =>
    obtain ⟨after, outcome, mark⟩ := same.observe x o
    obtain ⟨behind, rest⟩ := ih after
    refine ⟨behind, ?_⟩
    simp only [Machine.observeAll, outcome, mark, rest]

/-- What the observations leave of an accepted state: its slots and counters as they leave those of the state before
(R22, R24). -/
theorem observeAll_accepted (same : SameTable s t) (x : Exposure) (os : List Observation) :
    (observeAll x os t).1 = { t with slots := (observeAll x os s).1.slots, counters := (observeAll x os s).1.counters } := by
  obtain ⟨⟨slots, counters, _, _⟩, _⟩ := same.observeAll x os
  have only := observeAll_only x os t
  unfold OnlyTable at only
  rw [slots, counters] at only
  exact only

/-! ## The acceptance (R22, R147, R150, R153) -/

theorem trackExposure_eq (f : LinkFrame) :
    trackExposure f =
      { obsTime := f.receipt - BitVec.ofNat 32 (byteAt f.payload 0).toNat,
        cabPitch := max (-160) (min 160 (trackCabPitch f.payload)) } := by
  rw [trackExposure, clampTo_eq (by decide), millis, BitVec.ofInt_natCast]

theorem serveTrack_accepted {f : LinkFrame} (long : 4 ≤ f.payload.length) (length : f.payload.length = 4 + 17 * trackCount f.payload)
    (few : trackCount f.payload ≤ 12) (composes : s.mode.composes = true) : serveTrack f s = acceptTrack f s := by
  rw [serveTrack, if_neg (by omega), if_neg (by simp [composes]), if_neg (Nat.not_lt.2 few)]

theorem afterTrackAccepted_active (h : s.mode = .active) :
    afterTrackAccepted s = startTrackTimer { s with trackPending := false } := by
  simp only [afterTrackAccepted, h]

theorem afterTrackAccepted_safe_unseen (h : s.mode = .safe) (unseen : s.sceneSeen = false) :
    afterTrackAccepted s = { s with trackSeen := true } := by
  simp only [afterTrackAccepted, h, recoverIfSeen, unseen, Bool.false_and, Bool.false_eq_true, if_false]

theorem afterTrackAccepted_safe_seen (h : s.mode = .safe) (seen : s.sceneSeen = true) :
    afterTrackAccepted s = recover { s with trackSeen := true } := by
  simp only [afterTrackAccepted, h, recoverIfSeen, seen, Bool.and_self, if_true]

/-- The reply to an accepted TRACK (R36). -/
theorem acceptTrack_eq (f : LinkFrame) {t : State}
    (accepted : afterTrackAccepted { s with lastTrackTime := s.timeBase, trackAccepted := true } = t) (same : SameTable s t) :
    acceptTrack f s =
      answer f
        (Status.ofClamp (cabPitchClamped f.payload ||
          (observeAll (trackExposure f) (parseObservations (trackCount f.payload) (f.payload.drop 4)) s).2.2))
        (observeAll (trackExposure f) (parseObservations (trackCount f.payload) (f.payload.drop 4)) s).2.1
        { t with
          slots := (observeAll (trackExposure f) (parseObservations (trackCount f.payload) (f.payload.drop 4)) s).1.slots
          counters :=
            (observeAll (trackExposure f) (parseObservations (trackCount f.payload) (f.payload.drop 4)) s).1.counters } := by
  rw [acceptTrack, accepted]
  rw [(same.observeAll _ _).2, observeAll_accepted same]

theorem cabPitchClamped_iff (payload : List Byte) :
    cabPitchClamped payload = true ↔ trackCabPitch payload < -160 ∨ 160 < trackCabPitch payload := by simp [cabPitchClamped]

/-- Settles O17: the parsing, the outcomes one by one, then the acceptance mode by mode. -/
theorem acceptedTrackActsByMode : Obligations.AcceptedTrackActsByMode := by
  unfold Obligations.AcceptedTrackActsByMode
  refine ⟨fun n bytes => ⟨length_parseObservations n bytes, fun j lt => ?_⟩, fun x s => ⟨rfl, fun o os => ?_⟩,
    fun f s track long length few => ?_⟩
  · intro byte word
    rw [parseObservations_getElem? n bytes lt]
    simp (disch := decide) only [Observation.parse, signedAt, unsignedAt, signed16, unsigned16, word16, byteAt_window]
    rfl
  · intro r rest code victim
    have coded : byteOf r.outcome.code = code := by cases h : r.outcome <;> simp only [code, h] <;> rfl
    have named : byteOf r.outcome.victim = victim := by cases h : r.outcome <;> simp only [victim, h] <;> rfl
    rw [← coded, ← named]
    have cons : observeAll x (o :: os) s = (rest.1, r.outcome.bytes r.mark ++ rest.2.1, r.mark || rest.2.2) := rfl
    rw [cons, outcome_bytes]
    rfl
  · obtain ⟨type, tag, payload, receipt⟩ := f
    dsimp only at track long length few
    subst track
    intro pitch x r status answered
    have exposure : trackExposure { type := 2, tag, payload, receipt } = x := trackExposure_eq _
    have shown : Status.ofClamp (cabPitchClamped payload || r.2.2) = status := by
      simp only [Status.ofClamp, Bool.or_eq_true, cabPitchClamped_iff, or_assoc]
      rfl
    have taken {t : State} (composes : s.mode.composes = true)
        (accepted : afterTrackAccepted { s with lastTrackTime := s.timeBase, trackAccepted := true } = t)
        (same : SameTable s t) :
        answered (answer { type := 2, tag, payload, receipt } status r.2.1
          { t with slots := r.1.slots, counters := r.1.counters }) := by
      have served : serve { type := 2, tag, payload, receipt } s =
          answer { type := 2, tag, payload, receipt } status r.2.1 { t with slots := r.1.slots, counters := r.1.counters } := by
        rw [serve_track rfl, serveTrack_accepted (f := { type := 2, tag, payload, receipt }) long length few composes,
          acceptTrack_eq _ accepted same, exposure, ← shown]
        rfl
      refine ⟨served, fun ready now => ?_, answer_replied _ _ _ _ _ _ _⟩
      rw [exec_request (c := .track tag payload) rfl, request_ready ready, ← served, ← now]
    refine ⟨fun active => ?_, fun safe unseen => ?_, fun safe seen => ?_⟩
    · exact ⟨_, taken (by rw [active]; rfl) (afterTrackAccepted_active active) ⟨rfl, rfl, rfl, rfl⟩, rfl⟩
    · exact ⟨_, taken (by rw [safe]; rfl) (afterTrackAccepted_safe_unseen safe unseen) ⟨rfl, rfl, rfl, rfl⟩, rfl⟩
    · exact ⟨_, taken (by rw [safe]; rfl) (afterTrackAccepted_safe_seen safe seen) ⟨rfl, rfl, rfl, rfl⟩, rfl⟩

end

end Sys2Proof.Machine
end

section
/-! PROOFS. DIRECT LEVELS (R99), the queries that only report (R171), and the end of a reply (R163, R166). -/

namespace Sys2Proof.Machine

/-! ## DIRECT LEVELS (R99) -/

section
variable {s : State} {h : Head}

theorem headOfByte_eq_some {b : Byte} (named : b.toNat = match h with | .left => 0 | .right => 1) :
    headOfByte b = some h := by
  cases h with
  | left => rw [show b = 0 from BitVec.eq_of_toNat_eq named]; rfl
  | right => rw [show b = 1 from BitVec.eq_of_toNat_eq named]; rfl

theorem serveDirectLevels_direct {f : LinkFrame} (length : f.payload.length = 34) (direct : s.mode = .direct)
    (head : headOfByte (byteAt f.payload 0) = some h) (group : (byteAt f.payload 1).toNat ≤ 11) :
    serveDirectLevels f s =
      answer f (Status.ofClamp ((directValues f.payload).any fun v => decide (1023 < v))) []
        (writeDirect h (byteAt f.payload 1).toNat (directValues f.payload) s) := by
  rw [serveDirectLevels, if_neg (not_not_intro length), if_neg (not_not_intro direct), head]
  exact if_neg (Nat.not_lt.2 group)

/-- A written group holds its levels, at most 1023 each, and every other group its old ones (R9, R99). -/
theorem levelAt_writeGroup (levels channels : List Nat) (g : Nat) {c r : Nat} (hc : c < 48) (hr : r < 4) :
    levelAt (writeGroup levels g channels) c r =
      if c / 4 = g then channels.getD (4 * r + c % 4) 0 else levelAt levels c r := levelAt_matrixOf _ hc hr

theorem length_writeGroup (levels channels : List Nat) (g : Nat) : (writeGroup levels g channels).length = 192 :=
  length_matrixOf _

theorem directValues_getD (payload : List Byte) {k : Nat} (lt : k < 16) :
    ((directValues payload).map (min 1023)).getD k 0 =
      min 1023 (byteAt payload (2 + 2 * k) ++ byteAt payload (3 + 2 * k)).toNat := by
  rw [directValues, unsignedValues, List.map_map, List.getD_eq_getElem?_getD, List.getElem?_map, List.getElem?_range lt,
    show 3 + 2 * k = 2 + 2 * k + 1 by omega]
  rfl

/-- Settles O34: the group named by the request is written, and the reply tells of a clamp. -/
theorem directLevelsReplacesOneGroup : Obligations.DirectLevelsReplacesOneGroup := by
  unfold Obligations.DirectLevelsReplacesOneGroup
  intro tag payload h s ready direct length head group level
  let request : LinkFrame := { type := 8, tag, payload, receipt := s.timeBase }
  let status : Status := if (List.range 16).any (fun k => decide (1023 < level k)) = true then .clamped else .ok
  have values : directValues payload = (List.range 16).map level := by
    refine List.map_congr_left fun k _ => ?_
    simp only [level, show 3 + 2 * k = 2 + 2 * k + 1 by omega]
    rfl
  have clamped : Status.ofClamp ((directValues payload).any fun v => decide (1023 < v)) = status := by
    rw [values, List.any_map]
    rfl
  have written : ((answer request status [] (writeDirect h (byteAt payload 1).toNat (directValues payload) s)).head h).direct =
      writeGroup (s.head h).direct (byteAt payload 1).toNat ((directValues payload).map (min 1023)) := by cases h <;> rfl
  refine ⟨answer request status [] (writeDirect h (byteAt payload 1).toNat (directValues payload) s), ?_,
    answer_replied _ _ _ _ _ _ _, ?_, fun c r hc hr => ?_, ?_⟩
  · rw [exec_request (c := .directLevels tag payload) rfl, request_ready ready, serve_directLevels rfl,
      serveDirectLevels_direct length direct (headOfByte_eq_some head) group, clamped]
  · rw [written, length_writeGroup]
  · rw [written, levelAt_writeGroup _ _ _ hc hr, directValues_getD payload (by omega)]
  · cases h <;> rfl

end

/-! ## The queries that empty nothing (R44, R66, R82, R95, R140) -/

section
variable {s : State}

theorem answerQuery_replied {c : Instr} {tag kind : Byte} {parameters : List Byte}
    (row : requestOf c = some (5, tag, kind :: parameters)) (ready : Ready s) (known : kind.toNat ≤ 6)
    (fits : (kind :: parameters).length = queryLength kind.toNat) {part : List Byte}
    (reported : ∀ receipt, answerQuery { type := 5, tag, payload := kind :: parameters, receipt } kind.toNat s =
      answer { type := 5, tag, payload := kind :: parameters, receipt } .ok part s) :
    ∃ t, exec c s = .next t ∧ Replied 5 tag .ok part t ∧ OnlyReplied s t :=
  exec_refused row ready fun receipt => by rw [serve_query rfl, serveQuery_known rfl known fits, reported]

theorem profileCode_eq (profile : Option Profile) :
    byteOf (profileCode profile) =
      if profile = some .town then 1 else if profile = some .country then 2 else if profile = some .motorway then 3 else 0 := by
  rcases profile with _ | _ | _ | _ <;> rfl

theorem entryState_code_eq (state : EntryState) :
    state.code = if state = .tentative then 0 else if state = .active then 1 else 2 := by cases state <;> rfl

theorem nodeState_code_eq (state : NodeState) :
    state.code =
      if state = .unseen then 0 else if state = .ok then 1 else if state = .suspect then 2
      else if state = .silent then 3 else 4 := by cases state <;> rfl

theorem reportedEcho_eq (r : NodeRecord) :
    r.reportedEcho.derate = (r.lastEcho.map LastEcho.derate).getD 0 ∧
      r.reportedEcho.openFlags = (r.lastEcho.map LastEcho.openFlags).getD 0 ∧
        r.reportedEcho.shortFlags = (r.lastEcho.map LastEcho.shortFlags).getD 0 := by
  unfold NodeRecord.reportedEcho
  cases r.lastEcho <;> exact ⟨rfl, rfl, rfl⟩

theorem headOfByte_headByte (h : Head) : headOfByte (headByte h) = some h := by cases h <;> rfl

theorem queryShadows_head {f : LinkFrame} {h : Head} (head : byteAt f.payload 1 = headByte h) :
    queryShadows f s =
      answer f .ok (2 :: headByte h :: byteOf (s.head h).shadows.length :: (s.head h).shadows.flatMap Window.bytes) s := by
  rw [queryShadows, head, headOfByte_headByte]

theorem queryLevels_group {f : LinkFrame} {h : Head} (head : byteAt f.payload 1 = headByte h)
    (group : (byteAt f.payload 2).toNat ≤ 11) :
    queryLevels f s =
      answer f .ok (4 :: headByte h :: byteAt f.payload 2 ::
        (groupLevels (s.head h).applied (byteAt f.payload 2).toNat).flatMap bytesOfNat16) s := by
  rw [queryLevels, head, headOfByte_headByte]
  exact if_neg (Nat.not_lt.2 group)

/-- Settles O30: query by query, the report in the bytes of the spec. -/
theorem queriesReportAndChangeNothing : Obligations.QueriesReportAndChangeNothing := by
  unfold Obligations.QueriesReportAndChangeNothing
  intro tag s ready reports code natural integer age profile entry node
  have headed (h : Head) : code h = headByte h := by cases h <;> rfl
  refine ⟨?_, ?_, ?_, fun h => ?_, fun h g group => ?_⟩
  · have shown : byteOf (profileCode s.shaper.profile) = profile := profileCode_eq _
    rw [← shown]
    exact answerQuery_replied (c := .querySummary tag []) rfl ready (by decide) rfl fun _ => rfl
  · have target (now : Nat) (e : Entry) : entryBytes s.timeBase now e = bigEndian 14 (entry now e) := by
      rw [entryBytes_eq, entryState_code_eq]
      rfl
    have report : targetsReport s = s.slots.zipIdx.flatMap fun p => (p.1.map fun e => bigEndian 14 (entry p.2 e)).getD [] := by
      refine List.flatMap_congr fun p _ => ?_
      cases slot : p.1 with
      | none => rfl
      | some e => exact target p.2 e
    rw [← report]
    exact answerQuery_replied (c := .queryTargets tag []) rfl ready (by decide) rfl fun _ => rfl
  · have record (id : Nat) (r : NodeRecord) : r.bytes id = bigEndian 7 (node id r) := by
      obtain ⟨derate, openFlags, shortFlags⟩ := reportedEcho_eq r
      rw [nodeBytes_eq, nodeState_code_eq, derate, openFlags, shortFlags]
    have report : nodesReport s =
        (List.range 30).flatMap fun i => bigEndian 7 (node (i + 1) (s.nodes.getD i NodeRecord.rest)) :=
      List.flatMap_congr fun i _ => record (i + 1) _
    rw [← report]
    exact answerQuery_replied (c := .queryNodes tag []) rfl ready (by decide) rfl fun _ => rfl
  · rw [headed]
    exact answerQuery_replied (c := .queryShadows tag [headByte h]) rfl ready (by decide) rfl fun _ => queryShadows_head rfl
  · rw [headed]
    have levels : ((groupLevels (s.head h).applied g.toNat).flatMap bytesOfNat16) =
        (List.range 16).flatMap fun k => natural ((s.head h).applied.getD (48 * (k / 4) + (4 * g.toNat + k % 4)) 0) := by
      rw [groupLevels, List.flatMap_map]
      rfl
    rw [← levels]
    exact answerQuery_replied (c := .queryLevels tag [headByte h, g]) rfl ready (by decide) rfl
      fun _ => queryLevels_group rfl group

end

/-! ## The end of a reply (R163, R166) -/

section
variable {s : State}

/-- Only a TRACK reads the receipt time, and only a NODE PASS holds it (R23, R125). -/
theorem serve_receipt {f : LinkFrame} (track : f.type ≠ 2) (pass : f.type ≠ 9) (receipt : Millis) :
    serve { f with receipt } s = serve f s := by
  have number {n : Byte} (other : f.type ≠ n) : f.type.toNat ≠ n.toNat := fun same => other (BitVec.eq_of_toNat_eq same)
  unfold serve
  dsimp only
  split
  · rfl
  · rename_i two
    exact absurd two (number track)
  · rfl
  · rfl
  · rfl
  · rfl
  · rfl
  · rfl
  · rename_i nine
    exact absurd nine (number pass)
  · rfl

/-- The Request Handler holds the request of a pass-through; the Link Sequencer does not look at it (R118, R125). -/
theorem holdPass_receipt (f : LinkFrame) (receipt : Millis) (handler : Handler) :
    { holdPass { f with receipt } s with handler } = { holdPass f s with handler } := by
  by_cases free : s.grant = .none
  · have granted (g : LinkFrame) : holdPass g s = grantPass g.asPass { s with handler := .serving g, passThrough := some g.asPass } :=
      requestArrived_pass (s := { s with handler := .serving g, passThrough := some g.asPass }) free rfl rfl
    rw [granted, granted]
    rfl
  · rw [holdPass_busy free, holdPass_busy free]
    rfl

theorem serveNodePass_receipt (f : LinkFrame) (receipt : Millis) (handler : Handler) :
    { serveNodePass { f with receipt } s with handler } = { serveNodePass f s with handler } := by
  unfold serveNodePass
  dsimp only
  split
  · rfl
  · split
    · rfl
    · split
      · rfl
      · exact holdPass_receipt f receipt handler

theorem finishReply_empty (empty : s.inbound = []) : finishReply s = { s with replyBuffer := none, handler := .idle } := by
  simp only [finishReply, takeNext, empty]

theorem finishReply_next {f : LinkFrame} {rest : List LinkFrame} (waiting : s.inbound = f :: rest) :
    finishReply s = serve f { s with replyBuffer := none, handler := .idle, inbound := rest } := by
  simp only [finishReply, takeNext, waiting]

/-- Settles O11: the moment, the next request, the bytes on the wire, and what reads a receipt time. -/
theorem endOfReplyTakesTheNextRequest : Obligations.EndOfReplyTakesTheNextRequest := by
  unfold Obligations.EndOfReplyTakesTheNextRequest
  refine fun s => ⟨fun none => ?_, fun r sending first => ?_, fun f receipt track => ⟨fun pass => ?_, fun handler => ?_⟩⟩
  · exact exec_without (by decide) (congrArg (Option.map Reply.endsAt) none)
  · intro done
    have cause : causeAt .replyTransmitted s = some (r.startedAt + 10 * (r.payload.length + 7)) :=
      congrArg (Option.map Reply.endsAt) sending
    have taken := exec_at cause first
    refine ⟨fun empty => ?_, fun f rest waiting => ?_, ?_⟩
    · rw [taken]
      exact congrArg _ (finishReply_empty empty)
    · rw [taken]
      exact congrArg _ (finishReply_next waiting)
    · intro covered
      rw [← bytes16_eq]
      rfl
  · exact serve_receipt track pass receipt
  · by_cases pass : f.type = 9
    · rw [serve_nodePass (f := { f with receipt }) pass, serve_nodePass pass]
      exact serveNodePass_receipt f receipt handler
    · rw [serve_receipt track pass]

end

end Sys2Proof.Machine
end

section
/-! PROOFS. A frame start that begins a composition (R86), and the levels it composes (R89 to R96). -/

namespace Sys2Proof.Machine

section
variable {s : State}

/-! ## The beginning of a composition (R86) -/

theorem takeFrameStart_begins (mode : s.mode = .active ∨ s.mode = .safe) (idle : s.composition = none) :
    takeFrameStart s = beginComposition s := by
  have free : ¬ s.composition.isSome = true := by simp [idle]
  rcases mode with e | e <;> rw [takeFrameStart, e] <;> exact if_neg free

/-- Settles O36: at the phase of the frame clock the idle Composer begins a composition. -/
theorem frameStartBeginsAComposition : Obligations.FrameStartBeginsAComposition := by
  unfold Obligations.FrameStartBeginsAComposition
  intro s phase running first mode idle aged scene
  have base := atPhase_timeBase s phase
  have begun : takeFrameStart (s.atPhase phase) = beginComposition (s.atPhase phase) := takeFrameStart_begins mode idle
  refine ⟨takeFrameStart (s.atPhase phase), exec_frameStart running first, ?_, ?_, ?_⟩
  · rw [takeFrameStart_timeBase, base]
  · rw [begun]
    exact Nat.le_max_left _ _
  · rw [begun, beginComposition, base]
    rfl

/-! ## Shadows (R91) -/

theorem shadowedLevel_cons (v : Window) (windows : List Window) (c r level : Nat) :
    shadowedLevel (v :: windows) c r level =
      shadowedLevel windows c r (if v.covers c r = true then min level v.residual else level) := rfl

/-- A segment under windows stands at its unshadowed level or at the residual of a window that covers it (R91). -/
theorem shadowedLevel_attained (windows : List Window) (c r level : Nat) :
    shadowedLevel windows c r level = level ∨
      ∃ w ∈ windows, w.covers c r = true ∧ shadowedLevel windows c r level = w.residual := by
  induction windows generalizing level with
  | nil => exact .inl rfl
  | cons v windows ih =>
    rw [shadowedLevel_cons]
    rcases ih (if v.covers c r = true then min level v.residual else level) with kept | ⟨w, mem, covers, low⟩
    · rw [kept]
      split
      · rename_i covers
        exact (Nat.le_total level v.residual).imp Nat.min_eq_left fun low =>
          ⟨v, List.mem_cons_self, covers, Nat.min_eq_right low⟩
      · exact .inl rfl
    · exact .inr ⟨w, List.mem_cons_of_mem v mem, covers, low⟩

/-! ## Targets (R90, R96) -/

theorem undriven_eq_true_iff {h : Head} {c : Nat} : s.undriven h c = true ↔ ¬ c / 4 < s.nodeCount h := by
  simp [State.undriven]

theorem envelopeLevel_dark {results : ShaperResults} {h : Head} {c r : Nat}
    (dark : results.highBeam = false ∨ r ∈ results.darkRows ∨ ¬ c / 4 < s.nodeCount h) :
    envelopeLevel s results h c r = 0 := by
  rw [← undriven_eq_true_iff, ← List.contains_iff_mem] at dark
  rw [envelopeLevel, if_pos]
  rcases dark with off | ceiling | undriven
  · simp [off]
  · rw [ceiling, Bool.or_true, Bool.true_or]
  · rw [undriven, Bool.or_true]

theorem envelopeLevel_lit {results : ShaperResults} {h : Head} {c r : Nat} (on : results.highBeam = true)
    (below : r ∉ results.darkRows) (driven : c / 4 < s.nodeCount h) :
    envelopeLevel s results h c r =
      (truncDiv (columnLevel s results.profile (results.bend h) c * rowGain s results.profile r) 256).toNat := by
  have lit : ¬ s.undriven h c = true := mt undriven_eq_true_iff.1 (not_not_intro driven)
  rw [envelopeLevel, if_neg]
  simp [on, below, lit]

theorem safeTarget_lit {h : Head} {c : Nat} (driven : c / 4 < s.nodeCount h) : safeTarget s true h c 0 = s.itemNat 0 6 := by
  rw [safeTarget, if_neg (mt undriven_eq_true_iff.1 (not_not_intro driven)), if_pos ⟨rfl, rfl⟩]

theorem safeTarget_dark {highBeam : Bool} {h : Head} {c r : Nat}
    (dark : r ≠ 0 ∨ highBeam = false ∨ ¬ c / 4 < s.nodeCount h) : safeTarget s highBeam h c r = 0 := by
  rw [← undriven_eq_true_iff] at dark
  unfold safeTarget
  split
  · rfl
  · rename_i driven
    refine if_neg fun ⟨row, on⟩ => ?_
    rcases dark with other | off | undriven
    · exact other row
    · exact absurd (on.symm.trans off) nofun
    · exact driven undriven

theorem segmentTarget_envelope {c : Composition} (envelope : c.pattern = .envelope) (h : Head) (windows : List Window)
    (col r : Nat) : segmentTarget s c h windows col r = shadowedLevel windows col r (envelopeLevel s c.results h col r) := by
  rw [segmentTarget, envelope]

theorem segmentTarget_safe {c : Composition} (safe : c.pattern = .safe) (h : Head) (windows : List Window) (col r : Nat) :
    segmentTarget s c h windows col r = safeTarget s c.scene.highBeam h col r := by
  rw [segmentTarget, safe]

/-- Settles O39: the ramp, then the target in each of the two patterns. -/
theorem composedLevelKeepsItsBounds : Obligations.ComposedLevelKeepsItsBounds := by
  unfold Obligations.ComposedLevelKeepsItsBounds
  intro s c h windows col r onCol onRow old target new table position i f column envelope unshadowed driven
  have unshadowed_eq : unshadowed =
      (truncDiv (columnLevel s c.results.profile (c.results.bend h) col * rowGain s c.results.profile r) 256).toNat := rfl
  refine ⟨levelAt_matrixOf _ onCol onRow, fun pattern on below lit => ?_, fun pattern dark => ?_,
    fun pattern row on lit => ?_, fun pattern dark => ?_⟩
  · have level : target = shadowedLevel windows col r unshadowed := by
      rw [unshadowed_eq, ← envelopeLevel_lit on below lit, ← segmentTarget_envelope pattern]
    rw [level]
    exact ⟨shadowedLevel_le _ _ _ _, fun w mem covers => shadowedLevel_le_residual mem covers _,
      shadowedLevel_attained _ _ _ _⟩
  · have level : target = shadowedLevel windows col r 0 := by
      rw [← envelopeLevel_dark dark, ← segmentTarget_envelope pattern]
    exact level.trans (Nat.le_zero.1 (shadowedLevel_le _ _ _ _))
  · subst row
    exact (segmentTarget_safe pattern _ _ _ _).trans (on ▸ safeTarget_lit lit)
  · exact (segmentTarget_safe pattern _ _ _ _).trans (safeTarget_dark dark)

end

end Sys2Proof.Machine
end

section
/-! PROOFS. The handing of frames, arbitration and the grant of a head (R102, R118 to R121). -/

namespace Sys2Proof.Machine

section
variable {s : State}

/-! ## The grant of a head (R103, R120, R121) -/

/-- The levels block that opens the transfer of a granted frame: that of the group of the send cursor (R120, R121). -/
theorem grantHead_staged {h : Head} {f : StagedFrame} (staged : (s.head h).staged = some f) :
    let g := (s.head h).cursor % s.nodeCount h
    let node := (s.firstNode h).toNat + g
    grantHead h s =
      { s.setHead h { s.head h with staged := none, live := some f.levels } with
        grant := .head h, grantStart := some s.micros, progress := 0,
        exchange := some
          { port := h, node, startedAt := s.micros, phase := .sending,
            content := .levels
              (if (s.node node).state = .isolated then List.replicate 16 0
               else (List.range 16).map fun k => levelAt f.levels (4 * g + k % 4) (k / 4)) } } := by
  intro g node
  rw [grantHead, staged]
  cases h <;> rfl

/-! ## Which head an arbitration chooses (R119) -/

theorem chooseHead_only {h : Head} (staged : (s.head h).staged ≠ none) (alone : (s.head h.other).staged = none) :
    chooseHead s = some h := by
  obtain ⟨f, staged⟩ := Option.ne_none_iff_exists'.1 staged
  cases h with
  | left =>
    have right : s.right.staged = none := alone
    have left : s.left.staged = some f := staged
    rw [chooseHead, left, right]
  | right =>
    have left : s.left.staged = none := alone
    have right : s.right.staged = some f := staged
    rw [chooseHead, left, right]

theorem chooseHead_both {f f' : StagedFrame} (left : s.left.staged = some f) (right : s.right.staged = some f') :
    chooseHead s =
      if f.readyTime = f'.readyTime then some s.oncoming
      else if ageOf s.timeBase f'.readyTime < ageOf s.timeBase f.readyTime then some .left
      else some .right := by
  rw [chooseHead, left, right]

/-- Of two frames the one that is the older is granted: unequal ages are those of unequal ready times (R119). -/
theorem chooseHead_older {h : Head} {f f' : StagedFrame} (own : (s.head h).staged = some f)
    (others : (s.head h.other).staged = some f') (older : ageOf s.timeBase f'.readyTime < ageOf s.timeBase f.readyTime) :
    chooseHead s = some h := by
  have differ : f.readyTime ≠ f'.readyTime := fun same => by simp [same] at older
  cases h with
  | left => rw [chooseHead_both own others, if_neg differ, if_pos older]
  | right => rw [chooseHead_both others own, if_neg differ.symm, if_neg (Nat.lt_asymm older)]

/-! ## Arbitration (R119) -/

theorem arbitrate_pass {p : PassThrough} (waits : s.passThrough = some p) (notYet : p.inFlight = false) :
    arbitrate s = grantPass p s := by
  rw [arbitrate, waits]
  simp [notYet]

theorem arbitrate_head {h : Head} (unheld : s.passThrough = none) (chosen : chooseHead s = some h) :
    arbitrate s = grantHead h s := by
  rw [arbitrate, unheld]
  simp only [chosen]

theorem arbitrate_idle (unheld : s.passThrough = none) (left : s.left.staged = none) (right : s.right.staged = none) :
    arbitrate s = s := by
  rw [arbitrate, unheld]
  simp only [chooseHead_eq_none.2 ⟨left, right⟩]

/-- A frame handed to a staged slot that holds one supersedes it and is counted (R102). -/
theorem stageFrame_supersedes {h : Head} (levels : List Nat) (staged : (s.head h).staged ≠ none) :
    stageFrame h levels s =
      requestArrived ((countEvent (.superseded h) s).setHead h
        { s.head h with staged := some { levels, readyTime := s.timeBase } }) := by
  have held : (s.head h).staged.isSome = true := Option.isSome_iff_ne_none.2 staged
  simp only [stageFrame, if_pos held]
  cases h <;> rfl

theorem stageFrame_fills {h : Head} (levels : List Nat) (free : (s.head h).staged = none) :
    stageFrame h levels s =
      requestArrived (s.setHead h { s.head h with staged := some { levels, readyTime := s.timeBase } }) := by
  have empty : ¬ (s.head h).staged.isSome = true := by simp [free]
  simp only [stageFrame, if_neg empty]

/-- Settles O45: the arrival of a requester, the pass-through before the heads, and the choice between the heads. -/
theorem handedFramesWaitAndAreGrantedInOrder : Obligations.HandedFramesWaitAndAreGrantedInOrder := by
  unfold Obligations.HandedFramesWaitAndAreGrantedInOrder
  intro s granted filled arrived
  have grants {h : Head} (unheld : s.passThrough = none) (chosen : chooseHead s = some h) : granted h := by
    obtain ⟨f, staged⟩ := chooseHead_staged chosen
    exact ⟨f, staged, (arbitrate_head unheld chosen).trans (grantHead_staged staged)⟩
  have arrives {u : State} (grant : u.grant = s.grant) : requestArrived u = arrived u := by rw [requestArrived, grant]
  have kept (h : Head) (hs : HeadState) (u : State) : (u.setHead h hs).grant = u.grant := by cases h <;> rfl
  refine ⟨rfl, fun h levels => ⟨fun free => ?_, fun held => ?_⟩, fun p waits notYet => ?_, fun unheld =>
    ⟨fun h staged alone => ?_, fun h f f' own others older => ?_, fun f f' left right tie => ?_, ?_⟩⟩
  · exact (stageFrame_fills levels free).trans (arrives (kept _ _ _))
  · exact (stageFrame_supersedes levels held).trans (arrives (kept _ _ _))
  · rw [arbitrate_pass waits notYet]
    exact ⟨rfl, rfl, fun h routed => grantPass_routed routed⟩
  · exact grants unheld (chooseHead_only staged alone)
  · exact grants unheld (chooseHead_older own others older)
  · refine grants unheld ?_
    rw [chooseHead_both left right, if_pos tie]
    rfl
  · exact arbitrate_idle unheld

end

end Sys2Proof.Machine
end

section
/-! PROOFS. When the moments of the block's own come, and what the block does while no command waits (logs 1, 2, 3). -/

namespace Sys2Proof.Machine

section
variable {s : State}

/-! ## The moment of a cause -/

theorem momentOf_of_cause {c : Instr} {u : Nat} (cause : causeAt c s = some u) : momentOf c s = some (max s.micros u) :=
  congrArg (Option.map (max s.micros)) cause

theorem momentOf_without {c : Instr} (cause : causeAt c s = none) : momentOf c s = none :=
  congrArg (Option.map (max s.micros)) cause

/-- A command whose cause follows an event by a fixed time (R109, R115, R160). -/
theorem momentOf_after {c : Instr} {event : Option Nat} {delay : Nat} (cause : causeAt c s = event.map (· + delay)) :
    (event = none → momentOf c s = none) ∧ ∀ t, event = some t → momentOf c s = some (max s.micros (t + delay)) := by
  constructor
  · rintro rfl
    exact momentOf_without cause
  · rintro t rfl
    exact momentOf_of_cause cause

theorem momentOf_not_own {c : Instr} (other : c ∉ ownCommands) : momentOf c s = none :=
  Option.eq_none_iff_forall_ne_some.2 fun _ moment => other (mem_ownCommands moment)

/-! ## A deadline of the time base (R83, R147) -/

/-- The time base reaches a deadline at `microsAt`, and not before (R21). -/
theorem timeBase_ne_before_microsAt {d : Millis} {u : Nat} (now : s.micros ≤ u) (before : u < s.microsAt d) :
    BitVec.ofNat 32 (u / 1000) ≠ d := by
  rintro rfl
  unfold State.microsAt at before
  split at before
  · omega
  · have base := BitVec.toNat_sub (BitVec.ofNat 32 (u / 1000)) s.timeBase
    unfold State.timeBase at *
    simp only [BitVec.toNat_ofNat] at *
    omega

/-- A command whose cause is a deadline has its moment where the time base next equals it (R83, R147). -/
theorem momentOf_deadline {c : Instr} {deadline : Option Millis} (cause : causeAt c s = deadline.map s.microsAt) :
    (deadline = none → momentOf c s = none) ∧
    ∀ d, deadline = some d → ∃ t, momentOf c s = some t ∧ s.micros ≤ t ∧ BitVec.ofNat 32 (t / 1000) = d ∧
      ∀ u, s.micros ≤ u → u < t → BitVec.ofNat 32 (u / 1000) ≠ d := by
  constructor
  · rintro rfl
    exact momentOf_without cause
  · rintro d rfl
    refine ⟨max s.micros (s.microsAt d), momentOf_of_cause cause, Nat.le_max_left _ _, timeBase_passTo_microsAt d s,
      fun u now before => timeBase_ne_before_microsAt now ?_⟩
    rwa [Nat.max_eq_right (micros_le_microsAt d s)] at before

/-! ## The other causes (R109, R115, R160, R166, R177) -/

theorem causeAt_exchange_idle (idle : s.exchange = none) :
    causeAt .blockSent s = none ∧ causeAt .echoStartTimeout s = none ∧ causeAt .echoSilenceTimeout s = none ∧
      causeAt .echoHardLimit s = none :=
  ⟨congrArg (Option.bind · blockSentAt) idle, congrArg (Option.bind · (startTimeoutAt s.echoTimeout)) idle,
    congrArg (Option.bind · echoSilenceAt) idle, congrArg (Option.bind · (hardLimitAt s.echoTimeout)) idle⟩

theorem inFrame_iff {framer : FramerState} :
    framer.inFrame = true ↔ framer = .header ∨ framer = .payload ∨ framer = .crc := by
  cases framer <;> simp [FramerState.inFrame]

/-- A block takes 5 µs a byte (R109, R110). -/
theorem blockEnd_levels {x : Exchange} {levels : List Nat} (content : x.content = .levels levels) :
    blockEnd x = x.startedAt + 5 * 24 := by
  rw [blockEnd, Exchange.blockDuration, content, length_blockBytes_levels]

theorem blockEnd_service {x : Exchange} {bytes : List Byte} (content : x.content = .service bytes) :
    blockEnd x = x.startedAt + 5 * (bytes.length + 5) := by
  rw [blockEnd, Exchange.blockDuration, content, length_blockBytes_service]

/-! ## An empty queue (logs 1 and 2) -/

theorem exists_takeFirst {cs : List Instr} (nonempty : cs ≠ []) (s : State) : ∃ d u, takeFirst cs s = some (d, u) := by
  match cs with
  | [] => exact absurd rfl nonempty
  | [c] => exact ⟨c, s, rfl⟩
  | c :: d :: rest => exact ⟨_, _, rfl⟩

theorem step_idle (empty : s.pending = []) (nothing : dueMoments s = []) :
    step s = .next { s with micros := s.micros + 1 } := by
  rw [step_nil empty, idle, nothing]
  rfl

theorem step_one {c : Instr} (empty : s.pending = []) (one : dueMoments s = [c]) : step s = exec c s := by
  rw [step_nil empty, idle, one]
  rfl

/-- Of several moments that are due one is taken, and the tie is counted (log 2). -/
theorem step_tie (empty : s.pending = []) (several : 2 ≤ (dueMoments s).length) :
    ∃ e ∈ dueMoments s, step s = exec e { s with ties := s.ties + 1 } := by
  have nonempty : dueMoments s ≠ [] := List.ne_nil_of_length_pos (by omega)
  obtain ⟨e, u, taken⟩ := exists_takeFirst nonempty s
  obtain ⟨mem, rfl⟩ := takeFirst_some taken
  refine ⟨e, mem, ?_⟩
  rw [step_nil empty, idle, taken, if_neg (by omega)]

/-! ## A course of moments (log 3) -/

/-- Before the moment of a command the first of all moments is taken, and the course goes on from there. -/
theorem runTo_first {c : Instr} {t m : Nat} (own : momentOf c s = some t) (earlier : m < t)
    (due : ∃ d, momentOf d s = some m) (first : ∀ d k, momentOf d s = some k → m ≤ k) :
    ∃ d ties u, momentOf d s = some m ∧ s.ties ≤ ties ∧ exec d { s with ties } = .next u ∧
      ∀ n, runTo (n + 1) c s = runTo n c u := by
  obtain ⟨e, due⟩ := due
  have passing : firstMoment t s ≠ t := by
    have := firstMoment_le_momentOf (t := t) due
    omega
  have firstIs : firstMoment t s = m := by
    obtain ⟨f, moment⟩ := exists_firstMoment passing
    exact Nat.le_antisymm (firstMoment_le_momentOf due) (first f _ moment)
  obtain ⟨d, v, taken⟩ := exists_takeFirst (List.ne_nil_of_mem (mem_commandsAt.2 due)) s
  obtain ⟨mem, isTie⟩ := takeFirst_some taken
  have moment := mem_commandsAt.1 mem
  have same (f : Instr) : momentOf f v = momentOf f s := by
    rw [isTie]
    exact momentOf_congr f s s.pending _
  have undisturbed : Undisturbed d v := by
    intro f k l hk hl
    rw [same] at hk hl
    rw [moment] at hk
    cases hk
    exact first f l hl
  refine ⟨d, v.ties, happen d (passTo m v), moment, ?_, ?_, fun n => ?_⟩
  · rw [isTie]
    dsimp only
    split <;> omega
  · have kept : { s with ties := v.ties } = v := by rw [isTie]
    rw [kept]
    exact exec_undisturbed ((same d).trans moment) undisturbed
  · rw [runTo, own]
    simp only [if_neg passing]
    rw [firstIs, taken]

/-- Settles O2: each moment, the step on an empty queue, and the course to a moment that lies behind others. -/
theorem emptyQueueStepIsTheTick : Obligations.EmptyQueueStepIsTheTick := by
  unfold Obligations.EmptyQueueStepIsTheTick
  intro s own falls never fallsAt inFrame
  have framer : s.framer.inFrame = true ↔ inFrame := inFrame_iff
  refine ⟨⟨momentOf_deadline rfl, momentOf_deadline rfl, momentOf_deadline rfl⟩,
    ⟨fun idle => ?_, fun reading => momentOf_of_cause (causeAt_autoloadTimeout reading)⟩,
    ⟨fun absent => ?_, fun t inside => (momentOf_after (causeAt_frameSilence_inFrame (framer.2 inside))).2 t⟩,
    ⟨fun unsent => ?_, fun r sending => ?_⟩,
    ⟨fun idle => ?_, fun x inFlight => ?_⟩, fun c => momentOf_not_own, fun c => mem_dueMoments,
    fun empty => ⟨step_idle empty, fun c => step_one empty, fun c d rest several => ?_⟩,
    fun c mem => ⟨exec_own mem s, runTo_none, fun t m => runTo_first⟩⟩
  · exact momentOf_without (congrArg (Option.map fun _ => autoloadLimit) idle)
  · cases inside : s.framer.inFrame with
    | false => exact momentOf_without (causeAt_frameSilence_outside inside)
    | true =>
      have unheard := absent.resolve_left (not_not_intro (framer.1 inside))
      exact (momentOf_after (causeAt_frameSilence_inFrame inside)).1 unheard
  · exact momentOf_without (congrArg (Option.map Reply.endsAt) unsent)
  · exact momentOf_of_cause (congrArg (Option.map Reply.endsAt) sending)
  · obtain ⟨sent, start, silence, limit⟩ := causeAt_exchange_idle idle
    exact ⟨momentOf_without sent, momentOf_without start, momentOf_without silence, momentOf_without limit⟩
  · have sent := causeAt_blockSent inFlight
    have start := causeAt_echoStartTimeout inFlight
    have silence := causeAt_echoSilenceTimeout inFlight
    have limit := causeAt_echoHardLimit inFlight
    unfold blockSentAt at sent
    unfold startTimeoutAt at start
    unfold echoSilenceAt at silence
    unfold hardLimitAt at limit
    cases phase : x.phase with
    | sending =>
      rw [phase] at sent start silence limit
      refine ⟨?_, momentOf_without start, momentOf_without silence, momentOf_without limit⟩
      cases content : x.content with
      | levels levels => exact momentOf_of_cause (sent.trans (congrArg some (blockEnd_levels content)))
      | service bytes => exact momentOf_of_cause (sent.trans (congrArg some (blockEnd_service content)))
    | awaiting ended =>
      rw [phase] at sent start silence limit
      exact ⟨momentOf_without sent, momentOf_of_cause start, momentOf_without silence, momentOf_of_cause limit⟩
    | receiving ended bytes silentSince =>
      rw [phase] at sent start silence limit
      exact ⟨momentOf_without sent, momentOf_without start, momentOf_of_cause limit, momentOf_after silence⟩
    | failed ended silentSince =>
      rw [phase] at sent start silence limit
      exact ⟨momentOf_without sent, momentOf_without start, momentOf_of_cause limit, momentOf_after silence⟩
  · exact step_tie empty (by simp [several])

end

end Sys2Proof.Machine
end
